-- ==== Sys2Proof/Word.lean ====
section
/-! DEFINITION. Word types of the part and the reading and placing of bit fields (00_scope.md 0.4.1, chapter 12). -/
namespace Sys2Proof

/-- A 32-bit word of the store bus. -/
abbrev Word := BitVec 32

/-- A byte. -/
abbrev Byte := BitVec 8

/-- A 16-bit field or count. -/
abbrev Half := BitVec 16

/-- The `n` bits of `w` from bit `lo` up, as an unsigned field (R199). -/
def bits (w : Word) (lo n : Nat) : BitVec n := w.extractLsb' lo n

/-- A field placed at bit `lo` of a word of zeros (R198). -/
def place {n : Nat} (x : BitVec n) (lo : Nat) : Word := (x.setWidth 32) <<< lo

/-- A flag placed at bit `lo`. -/
def flag (b : Bool) (lo : Nat) : Word := if b then place (1#1) lo else 0

/-- A number placed at bit `lo`. -/
def num (n : Nat) (lo : Nat) : Word := (BitVec.ofNat 32 n) <<< lo

end Sys2Proof
end

