-- ==== Sys2Proof/Syntax.lean ====
section
/-! DEFINITION. The commands of the block: one constructor per row of spec/opcode_table.json, with the row's operands. -/
namespace Sys2Proof

/-- The data side of an upstream write as it arrives: 32 bits and the four parity bits (R3, R18). -/
structure BusWord where
  data : Word
  parity : BitVec 4
deriving DecidableEq, Repr

/-- What a read of the store returns beyond what was last written there: the data bits and the parity bits by which the
store's answer differs (R18, R19; log entry 8).  All zero is a clean read. -/
structure Disturb where
  data : Word
  parity : BitVec 4
deriving DecidableEq, Repr

/-- The fields the host writes into Command Slot word 0 beside the code, and the parity bits of that write (chapter 12.8). -/
structure CmdHeader where
  length : Byte
  tag : Byte
  check : Byte
  parity : BitVec 4
deriving DecidableEq, Repr

/-- The commands and events of the part, in the order of the table. -/
inductive Instr where
  /-- R17: power-on completes; the level of the AREA_SEL pins. -/
  | powerOn (areaSel : BitVec 3)
  /-- R17: RESET_N is asserted, or power fails. -/
  | resetNAsserted
  /-- R17: RESET_N is released; the level of the AREA_SEL pins. -/
  | resetNReleased (areaSel : BitVec 3)
  /-- R3: an upstream write at any byte address. -/
  | upstreamWrite (addr : Word) (w : BusWord) (be : BitVec 4)
  /-- R8: an upstream write to a protected word. -/
  | blockedWrite (addr : Word) (w : BusWord) (be : BitVec 4)
  /-- R16: the throttle mark has cleared and the held access is taken. -/
  | throttleHoldEnd
  /-- R21: a read of Status Page word 0. -/
  | statusSnapshotRead (be : BitVec 4)
  /-- R22: a read of Status Page word `word`, 1 to 31. -/
  | statusWordRead (word : BitVec 5) (be : BitVec 4) (d : Disturb)
  /-- R30: a commit on Command Slot word 0 that finds a command in flight. -/
  | commitCollision (w : BusWord)
  | routeOpen (h : CmdHeader)
  | routeClose (h : CmdHeader)
  | segmentEnter (h : CmdHeader)
  | segmentLeave (h : CmdHeader)
  | thresholdStage (h : CmdHeader)
  | thresholdNudge (h : CmdHeader)
  | pollNow (h : CmdHeader)
  | meterQuery (h : CmdHeader)
  | tamperAck (h : CmdHeader)
  | uploadBegin (h : CmdHeader)
  | uploadAck (h : CmdHeader)
  | uploadAbandon (h : CmdHeader)
  | eventEnable (h : CmdHeader)
  | eventClear (h : CmdHeader)
  | faultClear (h : CmdHeader)
  /-- R32: response word 0 joins the Insert Queue. -/
  | commandFlightEnd
  /-- R57: a commit on Position Slot word 3. -/
  | positionCommit (w : BusWord)
  /-- R60: a write to word 0 of capture slot `slot`. -/
  | captureArm (slot : BitVec 8) (w : BusWord) (be : BitVec 4)
  /-- R62: a commit on word 15 of capture slot `slot`. -/
  | captureCommit (slot : BitVec 8) (w : BusWord)
  /-- R63: a place in the Judge Queue is free and the held commit is taken. -/
  | heldCaptureCommitTaken
  /-- R64: a read of word 15 of capture slot `slot`. -/
  | captureVerdictRead (slot : BitVec 8) (be : BitVec 4) (d : Disturb)
  /-- R66: the oldest burst is taken from the Judge Queue. -/
  | judgeBurst
  /-- R48: the next held burst is judged. -/
  | deferredJudge
  /-- R38: the read of the image's route number completes. -/
  | routeNumberRead (d : Disturb)
  /-- R40: the read of the next header word completes. -/
  | headerRead (d : Disturb)
  /-- R41: the read of the next entry word completes. -/
  | entryRead (d : Disturb)
  /-- R149: the scan's next read completes. -/
  | scanRead (d : Disturb)
  /-- R127: the rebuild's next read completes. -/
  | scanRebuildRead (d : Disturb)
  /-- R169: the build's next read completes. -/
  | buildRead (d : Disturb)
  /-- R10: the first waiting producer gains a freed place. -/
  | insertQueueJoin
  /-- R12: the oldest queued write is issued. -/
  | insertIssue
  /-- R139: the head of the Backlog is composed. -/
  | composition
  /-- R96: a poll frame is begun. -/
  | frameBegin
  /-- R98: a commit on word 7 of TX slot `slot`. -/
  | txReport (slot : BitVec 5) (w : BusWord)
  /-- R101: the listen window of the meter at directory index `meter` expires. -/
  | listenExpiry (meter : Nat)
  /-- R103: the hold-off of the meter at directory index `meter` ends. -/
  | holdoffRelease (meter : Nat)
  /-- R173: a read of word `word` of Reading Store slot `slot`. -/
  | readingStoreRead (slot : BitVec 13) (word : BitVec 4) (be : BitVec 4) (d : Disturb)
  /-- R56: the REFCLK divider passes 1023. -/
  | routeClockAdvance
  /-- R193: the REFCLK-present detector reaches 4096. -/
  | clockLost
  /-- R186: SLEEP_IND shows `levels` (high is `true`) at consecutive BCLK edges. -/
  | sleepStateChange (levels : List Bool)
  /-- R187: the WAKE pulse has run its cycles. -/
  | wakePulseEnd
  /-- R3, R22: an upstream read at any byte address. -/
  | upstreamRead (addr : Word) (be : BitVec 4) (d : Disturb)
  /-- R56, R193: a rising edge of REFCLK. -/
  | refclkRisingEdge
deriving DecidableEq, Repr

end Sys2Proof
end

