-- ==== Sys2Proof/Config.lean ====
section
/-! DEFINITION. The fixed sizes, offsets and code points of the part, each with the rule that gives it. -/
namespace Sys2Proof.Config

/-- R1: the length of the Part Area in bytes, and the distance between two bases. -/
def partAreaSize : Nat := 0x200000
/-- R2: the number of slots of the Reading Store. -/
def storeSlots : Nat := 8192
/-- R10: places of the Insert Queue. -/
def queuePlaces : Nat := 64
/-- R16: the throttle mark is set when the entries reach this number. -/
def throttleSet : Nat := 48
/-- R16: the throttle mark is cleared at this number or below. -/
def throttleClear : Nat := 32
/-- R62: bursts the Judge Queue holds. -/
def judgePlaces : Nat := 16
/-- R46: bursts the Deferred List holds. -/
def deferredPlaces : Nat := 64
/-- R92: entries in IN_RING or LISTENING. -/
def inFlightLimit : Nat := 8
/-- R95: slots of the TX Ring. -/
def txSlots : Nat := 32
/-- R118: entries of the Tamper List. -/
def tamperPlaces : Nat := 128
/-- R144: entries of the Route Roster. -/
def rosterPlaces : Nat := 16
/-- R167: largest maximum record count of a batch. -/
def batchLimit : Nat := 512
/-- R143: free count at which STORE_LOW is raised. -/
def storeLow : Nat := 256
/-- R193: BCLK cycles without a REFCLK edge after which REFCLK is absent. -/
def refclkLimit : Nat := 4096
/-- R187: BCLK cycles of a WAKE pulse. -/
def wakeCycles : Nat := 32

/-- Chapter 12.5: the magic of a route image. -/
def magic : Word := 0xC4A5E140#32
/-- Chapter 12.4: the report words of a TX slot. -/
def ready : Word := 0x0000A001#32
def done : Word := 0x0000D001#32
def failed : Word := 0x0000F001#32
/-- R81, R44: no directory index; no place. -/
def noIndex : Half := 0xFFFF#16
def allOnes : Word := 0xFFFFFFFF#32

end Sys2Proof.Config
end

