-- ==== Sys2Proof/Machine/State.lean ====
section
/-! DEFINITION. The state of the part as plain data, block by block (00_scope.md 0.3), and its value right after reset. -/
namespace Sys2Proof.Machine

/-- The spec gives no step of the part that stops it: a latched fault (chapter 11) is state, so no reason exists. -/
inductive Fault where
deriving DecidableEq, Repr

/-- Reasons for refusing a command. -/
inductive Refusal where
  /-- Raised by Dispatch.lean alone for a command without a meaning (none is left); safe: nothing is claimed of it. -/
  | notModelled (mnemonic : String)
deriving DecidableEq, Repr

/-- The route store SRAM behind the part (R3, R18): bytes by address, and the addresses whose held parity bit is odd.
An unlisted byte reads as 0 with even parity (log entry 7). -/
structure Store where
  bytes : List Host.Cell
  odd : List (Nat × Bool)
deriving DecidableEq, Repr

/-- The blocks that give writes to the Insert Queue (R10). -/
inductive Producer where
  | commandUnit | captureUnit | pollUnit | storeManager | uploadUnit | tamperUnit | pathUnit
deriving DecidableEq, Repr

/-- R10: an entry of the Insert Queue. -/
structure QEntry where
  addr : Nat
  data : Word
  producer : Producer
  notify : Bool
deriving DecidableEq, Repr

/-- A write a producer gives to the Insert Queue (R10). -/
inductive QWrite where
  /-- a word with fixed data; `notify` asks for an issue notice (R12) -/
  | word (addr : Nat) (data : Word) (notify : Bool)
  /-- status write of word `n`: takes its data when it joins (R20) -/
  | status (n : Nat)
  /-- the Tamper Unit's header write of a slot whose composition header has not joined yet (R115) -/
  | header (slot : Nat)
  /-- not a write: the response is given when the producer's writes before it have joined (R29) -/
  | respond
  /-- response word 0: composed when it joins (R31) -/
  | response0
deriving DecidableEq, Repr

/-- R139, R177: a composed record whose slot's EMPTY write has not joined the queue. -/
structure HeldBody where
  slot : Nat
  writes : List QWrite
deriving DecidableEq, Repr

/-- The Insert Queue and the writes on their way into it (R10 to R16, R115, R177). -/
structure Inserts where
  entries : List QEntry
  throttle : Bool
  /-- producers waiting for a place, in the order in which they began to wait, each with its writes (R10) -/
  waits : List (Producer × List QWrite)
  /-- response word 0 joins at the next COMMAND_FLIGHT_END (log entry 12) -/
  resp0 : Bool
  /-- re-lock header writes kept back until the slot's composition header has joined (R115, R116) -/
  laterLocks : List Nat
  /-- the header writes of a TAMPER_ACK and the response behind them, in order (R125) -/
  ackFifo : List QWrite
  heldBody : Option HeldBody
  /-- the model's own: what the event being taken has given so far; empty between events -/
  outbox : List (Producer × QWrite)
  /-- the model's own free choices of order at coming events (R10 "either may go first"; log entry 10) -/
  ties : List Nat
deriving DecidableEq, Repr

/-- An upstream access as it stands on the computer-side bus. -/
inductive Access where
  | write (addr : Nat) (w : BusWord) (be : BitVec 4)
  | read (addr : Nat) (be : BitVec 4) (d : Disturb)
deriving DecidableEq, Repr

/-- Why an access is held with CWAIT: the throttle (R16) or no place in the Judge Queue (R63). -/
inductive HoldReason where
  | throttle | judgeQueue
deriving DecidableEq, Repr

structure Held where
  access : Access
  reason : HoldReason
deriving DecidableEq, Repr

/-- What a completed upstream read carried on CD and CP (R23). -/
structure BusAnswer where
  addr : Nat
  data : Word
  parity : BitVec 4
deriving DecidableEq, Repr

/-- R15: the two that take the port in turn. -/
inductive PortUser where
  | queuedWrite | insertedRead
deriving DecidableEq, Repr

/-- R8, chapter 12.10 word 25. -/
inductive BlockReason where
  | none | partWord | recordBody | slotInBatch | slotNotStored | slotLocked | imageLoading
deriving DecidableEq, Repr

/-- The Path Unit (chapter 1). -/
structure Path where
  resetAsserted : Bool
  areaSel : BitVec 3
  /-- shadow words by word number in the Part Area (offset / 4); an unlisted one is 0 (R5) -/
  shadow : List (Nat × Word)
  /-- the snapshot latch while a snapshot is active (R21, R22) -/
  snapshot : Option (List Word)
  lastGrant : PortUser
  held : Option Held
  answer : Option BusAnswer
  blockedCount : Half
  blockedAddr : Word
  blockedReason : BlockReason
deriving DecidableEq, Repr

/-- A command's answer: status, result words 1 to 7, NOT_CLEARED (R31). -/
structure Response where
  status : Byte
  results : List Word
  notCleared : Bool
deriving DecidableEq, Repr

/-- R24: the running command; `response` once its status and results are known. -/
structure Running where
  code : Byte
  tag : Byte
  response : Option Response
deriving DecidableEq, Repr

/-- The Command Unit (R24). -/
structure Command where
  inFlight : Bool
  collision : Bool
  params : List Word
  running : Option Running
deriving DecidableEq, Repr

/-- The Route Clock (R56). -/
structure Clock where
  ms : Word
  divider : BitVec 10
deriving DecidableEq, Repr

/-- A position report as the Position Slot gives it (R57). -/
structure PosFix where
  lat : Word
  lon : Word
  time : Word
  quality : Byte
  seq : Half
deriving DecidableEq, Repr

/-- The fix of a burst once judged: position and age (R58). -/
structure BurstFix where
  lat : Word
  lon : Word
  age : Word
deriving DecidableEq, Repr

/-- The marks and the burst in progress of one capture slot (R59). -/
structure CapSlot where
  armed : Bool
  unread : Bool
  stamp : Word
  fix : Option PosFix
  overrun : Bool
deriving DecidableEq, Repr

/-- A burst in the Judge Queue or the Deferred List (R59, R46): `words` are shadow words 0 to 7, `word14` word 14. -/
structure Burst where
  slot : Nat
  mark : Bool
  words : List Word
  word14 : Word
  stamp : Word
  fix : Option PosFix
  overrun : Bool
deriving DecidableEq, Repr

/-- The Capture Unit (chapter 4).  An unlisted capture slot has every mark clear, stamp 0 and no fix. -/
structure Capture where
  slots : List (Nat × CapSlot)
  judgeQ : List Burst
  deferred : List Burst
  fix : Option PosFix
  overruns : Half
  unknownMeters : Half
  unjudged : Half
  routeJudged : Half
  routeUnknown : Half
  routeOverruns : Half
deriving DecidableEq, Repr

/-- A relay path: hop count 0, 1 or 2, and the hop IDs it uses. -/
structure RelayPath where
  hops : Byte
  hop1 : Word
  hop2 : Word
deriving DecidableEq, Repr

/-- R73: a learned path and the RSSI of the burst that set it. -/
structure Learned where
  path : RelayPath
  rssi : Byte
deriving DecidableEq, Repr

/-- R75: a reading with its unit code. -/
structure Reading where
  value : BitVec 48
  unit : Byte
deriving DecidableEq, Repr

/-- R76: one entry of a vote window. -/
structure Candidate where
  reading : Reading
  counter : Half
  stamp : Word
  fix : Option BurstFix
  rssi : Byte
  path : RelayPath
deriving DecidableEq, Repr

/-- R78: a confirmed reading with the stamp and fix of its source. -/
structure Confirmed where
  reading : Reading
  stamp : Word
  fix : Option BurstFix
deriving DecidableEq, Repr

/-- R52. -/
inductive MeterState where
  | expected | heard | read | polling | unreachable
deriving DecidableEq, Repr

/-- R50: the image fields of a meter; `stored` is `none` for hop count NONE. -/
structure MeterImage where
  id : Word
  typeCode : Byte
  segment : Nat
  mustConsume : Bool
  hasCounter : Bool
  stored : Option RelayPath
  refReading : Reading
  refCounter : Half
  maxDelta : Word
deriving DecidableEq, Repr

/-- R108: the slot and the sequence number of a meter's first record. -/
structure FirstRecord where
  slot : Nat
  seq : Word
deriving DecidableEq, Repr

/-- A directory entry: image fields (R50) and live fields (R51). -/
structure Meter where
  img : MeterImage
  state : MeterState
  window : List Candidate
  confirmed : Option Confirmed
  votes : Byte
  repeats : Byte
  best : Option Byte
  lastCounter : Option Half
  flags : Byte
  learned : Option Learned
  attempts : Byte
  causes : Byte
  written : Byte
  pendingNote : Bool
  ackPending : Bool
  requested : Bool
  first : Option FirstRecord
deriving DecidableEq, Repr

/-- R35. -/
inductive RouteState where
  | noRoute | loading | opened | closing
deriving DecidableEq, Repr

/-- R35: the route parameters. -/
structure RouteParams where
  meterCount : Half
  segCount : Half
  votesNeeded : Byte
  pollRetries : Byte
  listenBase : Half
  listenHop : Half
  holdoff : Half
  staleLimit : Half
deriving DecidableEq, Repr

/-- R84. -/
inductive SegState where
  | waiting | active | sweep | done
deriving DecidableEq, Repr

structure Segment where
  state : SegState
  unresolved : Nat
deriving DecidableEq, Repr

/-- R89: a threshold set; the RSSI floor is a signed 16-bit value. -/
structure Thresholds where
  floor : Half
  excess : Word
  low : Word
  drift : Half
deriving DecidableEq, Repr

/-- R38 to R42: how far a route load has come. -/
inductive Load where
  /-- the route number is being read (R38) -/
  | number
  /-- header words read so far, and the CRC-32C register (R40) -/
  | header (route : Half) (words : List Word) (crc : Word)
  /-- entry `index` is being read: its words so far (R41) -/
  | entry (route : Half) (hdr : List Word) (index : Nat) (words : List Word) (crc : Word)
deriving DecidableEq, Repr

/-- The Route Unit (chapters 3, 5, 8). -/
structure Route where
  state : RouteState
  number : Half
  params : RouteParams
  segs : List Segment
  activeSeg : Option Nat
  active : Thresholds
  staged : Thresholds
  missed : Half
  load : Option Load
deriving DecidableEq, Repr

/-- R92: sub-states, with the TX slot or the time held. -/
inductive PollSub where
  | queued
  | inRing (slot : Nat)
  | listening (expiry : Word)
  | holdoff (release : Word)
deriving DecidableEq, Repr

structure PollEntry where
  index : Nat
  attempt : Byte
  path : Option RelayPath
  sub : PollSub
deriving DecidableEq, Repr

/-- R95. -/
inductive TxState where
  | free | awaiting
deriving DecidableEq, Repr

/-- The Poll Unit (chapter 5).  An unlisted TX slot is FREE. -/
structure Poll where
  list : List PollEntry
  ringPos : Nat
  tx : List (Nat × TxState)
  tag : Half
  sent : Half
  answered : Half
deriving DecidableEq, Repr

/-- R118. -/
structure TamperEntry where
  route : Half
  meter : Word
  causes : Byte
  slot : Option Nat
deriving DecidableEq, Repr

/-- The Tamper Unit (R108). -/
structure Tamper where
  list : List TamperEntry
  overflow : Half
  records : Half
deriving DecidableEq, Repr

/-- R129, chapter 12.6. -/
inductive Kind where
  | reading | miss | note | summary
deriving DecidableEq, Repr

/-- R134. -/
inductive MissReason where
  | notHeard | unconfirmed | pollCancelled | pollFailed
deriving DecidableEq, Repr

/-- R136. -/
inductive Request where
  | reading (index : Nat)
  | miss (index : Nat) (reason : MissReason)
  | note (index : Nat)
  | summary
deriving DecidableEq, Repr

/-- The states of a slot that holds a record (R129). -/
inductive RecState where
  | writing | stored | inBatch
deriving DecidableEq, Repr

/-- R129: the record fields and marks of a slot that holds a record. -/
structure RecRow where
  state : RecState
  kind : Kind
  seq : Word
  route : Half
  locked : Bool
  acked : Bool
deriving DecidableEq, Repr

/-- A listed row of the slot state table.  An unlisted row is UNSCANNED until the end of the scan and FREE after it
(log entry 15). -/
inductive SlotRow where
  | quarantined
  | record (r : RecRow)
deriving DecidableEq, Repr

/-- R144. -/
structure RosterEntry where
  route : Half
  count : Nat
  isOpen : Bool
deriving DecidableEq, Repr

/-- R149, R152: where the start-up scan stands. -/
inductive Scan where
  /-- reading slot `slot`; its words read so far -/
  | slots (slot : Nat) (words : List Word)
  /-- rebuilding the Tamper List: slots to come, and word 3 of the first when read -/
  | rebuild (slots : List Nat) (meter : Option Word)
  | done
deriving DecidableEq, Repr

/-- The Store Manager (chapter 7). -/
structure StoreManager where
  slots : List (Nat × SlotRow)
  backlog : List Request
  roster : List RosterEntry
  nextSeq : Word
  scan : Scan
  findings : List (Nat × SlotRow)
  workRoster : List RosterEntry
  highest : Option Word
deriving DecidableEq, Repr

/-- R165. -/
inductive BatchState where
  | building | opened | fetched
deriving DecidableEq, Repr

structure BatchItem where
  slot : Nat
  seq : Word
  crc : Word
  mask : BitVec 16
deriving DecidableEq, Repr

/-- R165: the batch; `place`, `word` and `crc` say how far the build has come (R169), `left` is the stored count after the
selection (R170, response word 6). -/
structure Batch where
  state : BatchState
  id : Half
  items : List BatchItem
  digest : Word
  place : Nat
  word : Nat
  crc : Word
  left : Nat
deriving DecidableEq, Repr

/-- The Upload Unit (R165). -/
structure Upload where
  batch : Option Batch
  nextId : Half
  lastId : Half
deriving DecidableEq, Repr

/-- R187: a request waiting for its BCLK edge, and the cycles WAKE stays high. -/
structure Pulse where
  requested : Bool
  left : Nat
deriving DecidableEq, Repr

/-- The Event Unit (R183, R186). -/
structure Events where
  marks : BitVec 9
  notify : BitVec 9
  wake : BitVec 9
  asleep : Bool
  settled : Bool
  lastSample : Option Bool
  sleepPin : Bool
  pulse : Pulse
deriving DecidableEq, Repr

/-- The fault logic (R191). -/
structure FaultLogic where
  storeError : Bool
  clockLost : Bool
  errorAddr : Word
  detector : Nat
deriving DecidableEq, Repr

/-- The whole machine: the commands waiting, the route store, and the blocks of the part. -/
structure State where
  pending : List Instr
  store : Store
  path : Path
  ins : Inserts
  cmd : Command
  clk : Clock
  cap : Capture
  dir : List Meter
  route : Route
  poll : Poll
  tamper : Tamper
  sm : StoreManager
  up : Upload
  ev : Events
  flt : FaultLogic
  /-- the model's own free choices between R46 and R61: the slot marks with which bursts that an overrun has cut off in the
  Judge Queue join the Deferred List (log entry 25) -/
  cutMarks : List Bool
deriving DecidableEq, Repr

/-- R20, chapter 12.10: the reset value of Status Page word `n`. -/
def statusResetValue (n : Nat) : Word := if n = 2 then 0xFFFF#32 else 0

/-- R20: the status writes that join at reset, for a Part Area at byte address `base`. -/
def statusResetEntries (base : Nat) : List QEntry :=
  (List.range 32).map fun n => ⟨base + 0x80 + 4 * n, statusResetValue n, .pathUnit, false⟩

/-- The part at the completion of power-on or the release of RESET_N with AREA_SEL `sel`, around a store, a SLEEP_IND
level, the model's free choices and a queue that reset does not touch. -/
def State.afterReset (sel : BitVec 3) (store : Store) (sleepPin : Bool) (ties : List Nat) (cutMarks : List Bool)
    (pending : List Instr) : State where
  pending := pending
  store := store
  path :=
    { resetAsserted := false, areaSel := sel, shadow := [], snapshot := none, lastGrant := .insertedRead, held := none,
      answer := none, blockedCount := 0, blockedAddr := 0, blockedReason := .none }
  ins :=
    { entries := statusResetEntries (sel.toNat * Config.partAreaSize), throttle := false, waits := [], resp0 := false,
      laterLocks := [], ackFifo := [], heldBody := none, outbox := [], ties := ties }
  cmd := { inFlight := false, collision := false, params := [], running := none }
  clk := { ms := 0, divider := 0 }
  cap :=
    { slots := [], judgeQ := [], deferred := [], fix := none, overruns := 0, unknownMeters := 0, unjudged := 0,
      routeJudged := 0, routeUnknown := 0, routeOverruns := 0 }
  dir := []
  route :=
    { state := .noRoute, number := 0, params := ⟨0, 0, 0, 0, 0, 0, 0, 0⟩, segs := [], activeSeg := none,
      active := ⟨0, 0, 0, 0⟩, staged := ⟨0, 0, 0, 0⟩, missed := 0, load := none }
  poll := { list := [], ringPos := 0, tx := [], tag := 0, sent := 0, answered := 0 }
  tamper := { list := [], overflow := 0, records := 0 }
  sm :=
    { slots := [], backlog := [], roster := [], nextSeq := 0, scan := .slots 0 [], findings := [], workRoster := [],
      highest := none }
  up := { batch := none, nextId := 1, lastId := 0 }
  ev :=
    { marks := 0, notify := 0, wake := 0, asleep := false, settled := false, lastSample := none, sleepPin := sleepPin,
      pulse := ⟨false, 0⟩ }
  flt := { storeError := false, clockLost := false, errorAddr := 0, detector := 0 }
  cutMarks := cutMarks

/-- The machine right after reset: AREA_SEL reads 0, SLEEP_IND is low, the store lists nothing (log entries 7, 16). -/
def State.reset : State := State.afterReset 0 ⟨[], []⟩ false [] [] []

end Sys2Proof.Machine
end

