-- ==== Sys2Proof/Machine/Operands.lean ====
section
/-! DEFINITION. Addresses and windows of the Part Area (R1, R2, chapter 12), byte lanes and parity of a bus word (R18). -/
namespace Sys2Proof.Machine

/-- The little-endian byte `i` of a word (0.4.1). -/
def byteOf (w : Word) (i : Nat) : Byte := bits w (8 * i) 8

/-- The four bytes of a word, least significant first. -/
def bytesOf (w : Word) : List Byte := [byteOf w 0, byteOf w 1, byteOf w 2, byteOf w 3]

/-- A word from its four bytes, least significant first. -/
def wordOf (b0 b1 b2 b3 : Byte) : Word := b3 ++ b2 ++ b1 ++ b0

/-- Whether a byte has an odd number of ones: its even-parity bit (section 1.7). -/
def oddOnes (b : Byte) : Bool :=
  b.getLsbD 0 ^^ b.getLsbD 1 ^^ b.getLsbD 2 ^^ b.getLsbD 3 ^^ b.getLsbD 4 ^^ b.getLsbD 5 ^^ b.getLsbD 6 ^^ b.getLsbD 7

/-- Four lane bits as one field, lane 0 lowest. -/
def lanes (b0 b1 b2 b3 : Bool) : BitVec 4 :=
  BitVec.ofBool b3 ++ BitVec.ofBool b2 ++ BitVec.ofBool b1 ++ BitVec.ofBool b0

/-- R18: the even parity bits the part generates for a word. -/
def evenParity (w : Word) : BitVec 4 :=
  lanes (oddOnes (byteOf w 0)) (oddOnes (byteOf w 1)) (oddOnes (byteOf w 2)) (oddOnes (byteOf w 3))

/-- R5: the bytes of `new` whose enables are set over those of `old`. -/
def mergeBytes (old new : Word) (be : BitVec 4) : Word :=
  let pick (i : Nat) : Byte := if be.getLsbD i then byteOf new i else byteOf old i
  wordOf (pick 0) (pick 1) (pick 2) (pick 3)

/-- All four byte enables. -/
def allLanes : BitVec 4 := 0xF#4

/-- The byte address of an access: the two lowest bits are 0 (chapter 1, opening; log entry 9). -/
def accessAddr (addr : Word) : Nat := addr.toNat / 4 * 4

/-- R1: the base of the Part Area. -/
def partBase (sel : BitVec 3) : Nat := sel.toNat * Config.partAreaSize

/-- R2: the windows; slot, entry and word within them. -/
inductive Window where
  | command (w : Nat)
  | response (w : Nat)
  | position (w : Nat)
  | status (w : Nat)
  | tx (slot w : Nat)
  | manifest (w : Nat)
  | capture (slot w : Nat)
  | image (w : Nat)
  | record (slot w : Nat)
  | plain
deriving DecidableEq, Repr

/-- R2: the window of an offset from the base. -/
def windowAt (off : Nat) : Window :=
  if off < 0x40 then .command (off / 4)
  else if off < 0x60 then .response ((off - 0x40) / 4)
  else if off < 0x70 then .position ((off - 0x60) / 4)
  else if off < 0x80 then .plain
  else if off < 0x100 then .status ((off - 0x80) / 4)
  else if off < 0x1000 then .plain
  else if off < 0x1400 then .tx ((off - 0x1000) / 32) ((off - 0x1000) % 32 / 4)
  else if off < 0x2000 then .plain
  else if off < 0x3010 then .manifest ((off - 0x2000) / 4)
  else if off < 0x4000 then .plain
  else if off < 0x8000 then .capture ((off - 0x4000) / 64) ((off - 0x4000) % 64 / 4)
  else if off < 0x10000 then .plain
  else if off < 0x30040 then .image ((off - 0x10000) / 4)
  else if off < 0x40000 then .plain
  else if off < 0xC0000 then .record ((off - 0x40000) / 64) ((off - 0x40000) % 64 / 4)
  else .plain

/-- R1, R2: the window of a byte address; outside the Part Area everything is plain memory. -/
def windowOf (sel : BitVec 3) (addr : Nat) : Window :=
  if partBase sel ≤ addr ∧ addr < partBase sel + Config.partAreaSize then windowAt (addr - partBase sel) else .plain

/-- Byte addresses of the words of each window (R2). -/
def commandAddr (sel : BitVec 3) (w : Nat) : Nat := partBase sel + 4 * w
def responseAddr (sel : BitVec 3) (w : Nat) : Nat := partBase sel + 0x40 + 4 * w
def positionAddr (sel : BitVec 3) (w : Nat) : Nat := partBase sel + 0x60 + 4 * w
def statusAddr (sel : BitVec 3) (w : Nat) : Nat := partBase sel + 0x80 + 4 * w
def txAddr (sel : BitVec 3) (slot w : Nat) : Nat := partBase sel + 0x1000 + 32 * slot + 4 * w
def manifestAddr (sel : BitVec 3) (w : Nat) : Nat := partBase sel + 0x2000 + 4 * w
def manifestEntryAddr (sel : BitVec 3) (j w : Nat) : Nat := partBase sel + 0x2010 + 8 * j + 4 * w
def captureAddr (sel : BitVec 3) (slot w : Nat) : Nat := partBase sel + 0x4000 + 64 * slot + 4 * w
def imageAddr (sel : BitVec 3) (w : Nat) : Nat := partBase sel + 0x10000 + 4 * w
def entryAddr (sel : BitVec 3) (i w : Nat) : Nat := partBase sel + 0x10040 + 32 * i + 4 * w
def recordAddr (sel : BitVec 3) (slot w : Nat) : Nat := partBase sel + 0x40000 + 64 * slot + 4 * w

/-- R5: where the shadow of a word stands: its word number in the Part Area. -/
def shadowKey (sel : BitVec 3) (addr : Nat) : Nat := (addr - partBase sel) / 4

/-- R5: shadow keys of Command Slot, Position Slot and capture slot words. -/
def positionKey (w : Nat) : Nat := 0x18 + w
def captureKey (slot w : Nat) : Nat := 0x1000 + 16 * slot + w

end Sys2Proof.Machine
end

