-- ==== Sys2Proof/Machine/Flags.lean ====
section
/-! DEFINITION. Check codes (0.4.6), times (0.4.5), saturating counts, and the words the part composes from flags: verdict
words, headers, status codes, event classes (chapters 2, 10, 12). -/
namespace Sys2Proof.Machine

/-! ### Check codes -/

/-- One bit of a CRC that shifts left. -/
def crcLeft {n : Nat} (poly c : BitVec n) : BitVec n := if c.msb then (c <<< 1) ^^^ poly else c <<< 1

/-- One bit of a reflected CRC. -/
def crcRight {n : Nat} (poly c : BitVec n) : BitVec n := if c.getLsbD 0 then (c >>> 1) ^^^ poly else c >>> 1

/-- Eight steps of `f`. -/
def eight {α : Type} (f : α → α) (x : α) : α := f (f (f (f (f (f (f (f x)))))))

/-- CRC-8: polynomial 0x2F, initial value 0xFF, not reflected, no final XOR (R26). -/
def crc8 (bs : List Byte) : Byte :=
  bs.foldl (fun c b => eight (crcLeft 0x2F#8) (c ^^^ b)) 0xFF#8

/-- CRC-16: polynomial 0x1021, initial value 0xFFFF, not reflected, no final XOR (R68, R97). -/
def crc16 (bs : List Byte) : Half :=
  bs.foldl (fun c b => eight (crcLeft 0x1021#16) (c ^^^ (b ++ 0#8))) 0xFFFF#16

/-- The bytes of a list of words, ascending, each little-endian (0.4.6). -/
def wordBytes (ws : List Word) : List Byte := ws.flatMap bytesOf

/-- CRC-32C register before the first byte (0.4.6). -/
def crc32Init : Word := 0xFFFFFFFF#32

/-- CRC-32C over one more word: polynomial 0x1EDC6F41 in its reflected form 0x82F63B78 (0.4.6). -/
def crc32Word (c w : Word) : Word :=
  (bytesOf w).foldl (fun c b => eight (crcRight 0x82F63B78#32) (c ^^^ b.setWidth 32)) c

/-- CRC-32C's final XOR. -/
def crc32Final (c : Word) : Word := c ^^^ 0xFFFFFFFF#32

/-- CRC-32C over a list of words. -/
def crc32 (ws : List Word) : Word := crc32Final (ws.foldl crc32Word crc32Init)

/-! ### Times and counts -/

/-- 0.4.5: time `t` is reached at `now`. -/
def reached (now t : Word) : Bool := !(now - t).msb

/-- A 16-bit count that saturates at 65535. -/
def satInc (c : Half) : Half := if c = 0xFFFF#16 then c else c + 1

/-- A byte count that saturates at 255 (R51). -/
def satIncByte (c : Byte) : Byte := if c = 0xFF#8 then c else c + 1

/-- A number as a 16-bit count that saturates at 65535. -/
def satHalf (n : Nat) : Half := if n < 65536 then BitVec.ofNat 16 n else 0xFFFF#16

/-! ### Verdict words (chapter 12.3) -/

/-- Verdict flags at their bits in word 15. -/
def overrunFlag : Word := num 1 8
def tamperFlag : Word := num 1 9
def unaskedFlag : Word := num 1 10
def lateFlag : Word := num 1 11
def clashFlag : Word := num 1 12

/-- Verdict codes. -/
def vPending : Byte := 0x01#8
def vDeferred : Byte := 0x02#8
def vAccepted : Byte := 0x10#8
def vConfirmed : Byte := 0x11#8
def vRepeat : Byte := 0x12#8
def vDuplicate : Byte := 0x13#8
def vPollMatch : Byte := 0x14#8
def vBadCrc : Byte := 0x20#8
def vBadFrame : Byte := 0x21#8
def vWeak : Byte := 0x22#8
def vUnknownMeter : Byte := 0x23#8
def vNoRoute : Byte := 0x24#8
def vRouteClosing : Byte := 0x25#8
def vNotJudged : Byte := 0x26#8

/-- R64, R199: whether bits 0 to 7 of a word are a final verdict code. -/
def isFinalVerdict (w : Word) : Bool :=
  [vAccepted, vConfirmed, vRepeat, vDuplicate, vPollMatch, vBadCrc, vBadFrame, vWeak, vUnknownMeter, vNoRoute,
    vRouteClosing, vNotJudged].contains (bits w 0 8)

/-- R81: a verdict word. -/
def verdictWord (code : Byte) (flags : Word) (index : Half) : Word := place code 0 ||| flags ||| place index 16

/-! ### Status codes (R34) -/

def stOk : Byte := 0x00#8
def stNothing : Byte := 0x01#8
def stBadCrc : Byte := 0x10#8
def stBadCode : Byte := 0x11#8
def stBadLength : Byte := 0x12#8
def stBadParam : Byte := 0x13#8
def stWrongState : Byte := 0x14#8
def stFaulted : Byte := 0x15#8
def stImageCrc : Byte := 0x20#8
def stImageDup : Byte := 0x21#8
def stImageRange : Byte := 0x22#8
def stDupRoute : Byte := 0x23#8
def stRosterFull : Byte := 0x24#8
def stNotFetched : Byte := 0x30#8
def stDigestMismatch : Byte := 0x31#8
def stStoreError : Byte := 0x40#8
def stConditionPresent : Byte := 0x41#8

/-- R31, chapter 12.8: response word 0. -/
def responseWord0 (tag code status : Byte) (collided notCleared : Bool) : Word :=
  place tag 0 ||| place code 8 ||| place status 16 ||| flag collided 24 ||| flag notCleared 25

/-! ### Event classes (R183) -/

inductive EventClass where
  | tamper | segmentDone | pollFailed | storeLow | routeDone | commandDone | overrun | blocked | fault
deriving DecidableEq, Repr

/-- R183: the mask bit of a class. -/
def EventClass.mask : EventClass → BitVec 9
  | .tamper => 0x001#9
  | .segmentDone => 0x002#9
  | .pollFailed => 0x004#9
  | .storeLow => 0x008#9
  | .routeDone => 0x010#9
  | .commandDone => 0x020#9
  | .overrun => 0x040#9
  | .blocked => 0x080#9
  | .fault => 0x100#9

/-! ### Codes of states (chapter 12) -/

def routeStateCode : RouteState → Nat
  | .noRoute => 0
  | .loading => 1
  | .opened => 2
  | .closing => 3

def meterStateCode : MeterState → Nat
  | .expected => 0
  | .heard => 1
  | .read => 2
  | .polling => 3
  | .unreachable => 4

def segStateCode : SegState → Nat
  | .waiting => 0
  | .active => 1
  | .sweep => 2
  | .done => 3

def pollSubCode : PollSub → Nat
  | .queued => 1
  | .inRing _ => 2
  | .listening _ => 3
  | .holdoff _ => 4

def batchStateCode : BatchState → Nat
  | .building => 1
  | .opened => 2
  | .fetched => 3

def blockReasonCode : BlockReason → Nat
  | .none => 0
  | .partWord => 1
  | .recordBody => 2
  | .slotInBatch => 3
  | .slotNotStored => 4
  | .slotLocked => 5
  | .imageLoading => 6

def kindCode : Kind → Nat
  | .reading => 1
  | .miss => 2
  | .note => 3
  | .summary => 4

def kindOfCode (c : Byte) : Option Kind :=
  if c = 1#8 then some .reading else if c = 2#8 then some .miss else if c = 3#8 then some .note
  else if c = 4#8 then some .summary else none

def missReasonCode : MissReason → Nat
  | .notHeard => 1
  | .unconfirmed => 2
  | .pollCancelled => 3
  | .pollFailed => 4

/-- Tamper causes (chapter 12.6). -/
def cMeter : Byte := 0x01#8
def cClash : Byte := 0x02#8
def cCounter : Byte := 0x04#8
def cRollback : Byte := 0x08#8
def cExcess : Byte := 0x10#8
def cIdle : Byte := 0x20#8
def cUnstable : Byte := 0x40#8
def cDrift : Byte := 0x80#8

/-- A cause when its condition holds. -/
def causeIf (b : Bool) (c : Byte) : Byte := if b then c else 0

/-- R132, chapter 12.6: a record header. -/
def headerWord (kind : Kind) (locked acked : Bool) : Word :=
  0xA5#32 ||| num (kindCode kind) 8 ||| flag locked 16 ||| flag acked 17

/-- R165, chapter 12.7: the states a manifest header shows. -/
def manifestBuilding : Nat := 1
def manifestOpen : Nat := 2
def manifestFetched : Nat := 3
def manifestAcked : Nat := 4
def manifestAbandoned : Nat := 5

end Sys2Proof.Machine
end

