-- ==== Sys2Proof/Machine/Ops.lean ====
section
/-! DEFINITION. The operations every block shares: sparse data in canonical form, the route store, events, Status Page
words (R20), the Insert Queue (R10 to R16), the store-side port (R15), and how one event is taken. -/
namespace Sys2Proof.Machine

/-! ### Sparse data by key, in canonical form: keys strictly rising, no entry at the default -/

def lookup {α : Type} : List (Nat × α) → Nat → Option α
  | [], _ => none
  | (k, v) :: m, a => if k = a then some v else lookup m a

def insertAt {α : Type} : List (Nat × α) → Nat → α → List (Nat × α)
  | [], a, v => [(a, v)]
  | (k, w) :: m, a, v =>
    if a < k then (a, v) :: (k, w) :: m else if a = k then (a, v) :: m else (k, w) :: insertAt m a v

def eraseAt {α : Type} : List (Nat × α) → Nat → List (Nat × α)
  | [], _ => []
  | (k, w) :: m, a => if k = a then m else (k, w) :: eraseAt m a

/-- The value at a key; unlisted keys hold `d`. -/
def getD {α : Type} (d : α) (m : List (Nat × α)) (a : Nat) : α := (lookup m a).getD d

/-- Writes a value; writing the default removes the entry. -/
def setD {α : Type} [DecidableEq α] (d : α) (m : List (Nat × α)) (a : Nat) (v : α) : List (Nat × α) :=
  if v = d then eraseAt m a else insertAt m a v

/-- Keys strictly rising, all above `lo`. -/
def risingFrom {α : Type} : Nat → List (Nat × α) → Bool
  | _, [] => true
  | lo, (k, _) :: m => decide (lo ≤ k) && risingFrom (k + 1) m

/-- The canonical form of sparse data with default `d`. -/
def canonical {α : Type} [DecidableEq α] (d : α) (m : List (Nat × α)) : Bool :=
  risingFrom 0 m && m.all fun e => decide (e.2 ≠ d)

/-! ### The route store -/

/-- The canonical form of the store: no byte listed at 0, no lane listed as even. -/
def Memory.wf (st : Store) : Bool := canonical (0 : Byte) st.bytes && canonical false st.odd

/-- The byte at an address; an unlisted byte reads as 0 (log entry 7). -/
def Store.byte (st : Store) (a : Nat) : Byte := getD 0 st.bytes a

/-- The parity bit the store holds for a byte (section 1.7). -/
def Store.parityBit (st : Store) (a : Nat) : Bool := oddOnes (st.byte a) ^^ getD false st.odd a

/-- The word at byte address `a`. -/
def Store.word (st : Store) (a : Nat) : Word :=
  wordOf (st.byte a) (st.byte (a + 1)) (st.byte (a + 2)) (st.byte (a + 3))

/-- The four parity bits at byte address `a`. -/
def Store.parity (st : Store) (a : Nat) : BitVec 4 :=
  lanes (st.parityBit a) (st.parityBit (a + 1)) (st.parityBit (a + 2)) (st.parityBit (a + 3))

/-- One lane of a write: the byte and its parity bit as driven. -/
def Store.writeByte (st : Store) (a : Nat) (b : Byte) (p : Bool) : Store :=
  { bytes := setD 0 st.bytes a b, odd := setD false st.odd a (p != oddOnes b) }

/-- Lane `i` of a write to the word at `a`, when its byte enable is set. -/
def Store.writeLane (st : Store) (a : Nat) (w : BusWord) (be : BitVec 4) (i : Nat) : Store :=
  if be.getLsbD i then st.writeByte (a + i) (byteOf w.data i) (w.parity.getLsbD i) else st

/-- R3: a write drives the enabled lanes, data and parity as they came. -/
def Store.write (st : Store) (a : Nat) (w : BusWord) (be : BitVec 4) : Store :=
  (((st.writeLane a w be 0).writeLane a w be 1).writeLane a w be 2).writeLane a w be 3

/-- R10, R18: a write of the part's own: all byte enables, even parity. -/
def Store.writeOwn (st : Store) (a : Nat) (data : Word) : Store := st.write a ⟨data, evenParity data⟩ allLanes

/-- R18, R19: what a read of the store returns, with what the bus and the memory cells add. -/
def Store.answer (st : Store) (a : Nat) (d : Disturb) : BusWord :=
  ⟨st.word a ^^^ d.data, st.parity a ^^^ d.parity⟩

/-- R19: some lane of a returned word is odd. -/
def parityError (w : BusWord) : Bool := w.parity != evenParity w.data

/-! ### Events and faults that any block raises -/

/-- R184, R187: one occurrence of class `c`. -/
def Events.occur (c : EventClass) (e : Events) : Events :=
  { e with
    marks := e.marks ||| c.mask
    pulse := { e.pulse with requested := e.pulse.requested || (e.asleep && (e.wake &&& c.mask) != 0) } }

/-- R184: a block raises class `c`. -/
def raise (c : EventClass) (s : State) : State := { s with ev := s.ev.occur c }

/-- R186, R187: SLEEP_IND has shown `asleep` at two consecutive samples: the starting level, or a change, or neither. -/
def Events.sleepLevel (asleep : Bool) (e : Events) : Events :=
  if !e.settled then { e with settled := true, asleep := asleep }
  else if e.asleep = asleep then e
  else
    { e with
      asleep := asleep
      pulse := { e.pulse with requested := e.pulse.requested || (asleep && (e.marks &&& e.wake) != 0) } }

/-- R186: the sample of SLEEP_IND at a BCLK edge. -/
def Events.sample (e : Events) : Events :=
  let f := { e with lastSample := some e.sleepPin }
  if e.lastSample = some e.sleepPin then f.sleepLevel e.sleepPin else f

/-- R185: ALERT_N is asserted. -/
def State.alert (s : State) : Bool := !s.path.resetAsserted && (s.ev.marks &&& s.ev.notify) != 0

/-- R187: WAKE is high. -/
def State.wakeHigh (s : State) : Bool := decide (0 < s.ev.pulse.left)

/-- R23: CWAIT is asserted toward the computer side (R7, R16, R17). -/
def State.cwait (s : State) : Bool := s.path.resetAsserted || s.path.held.isSome

/-- R191: a fault is latched. -/
def State.faultLatched (s : State) : Bool := s.flt.storeError || s.flt.clockLost

/-- R193: REFCLK is present. -/
def State.refclkPresent (s : State) : Bool := decide (s.flt.detector < Config.refclkLimit)

/-- R192: a STORE_ERROR latch event at byte address `a`. -/
def latchStoreError (a : Nat) (s : State) : State :=
  raise .fault { s with flt := { s.flt with storeError := true, errorAddr := BitVec.ofNat 32 a } }

/-! ### Slot state table and counts (R129, R131) -/

def State.scanDone (s : State) : Bool := decide (s.sm.scan = .done)

/-- The six states of R129 as a Reading Store slot shows them. -/
inductive SlotState where
  | unscanned | quarantined | free | writing | stored | inBatch
deriving DecidableEq, Repr

/-- R129: the state of slot `k`. -/
def State.slotState (s : State) (k : Nat) : SlotState :=
  if s.scanDone then
    match lookup s.sm.slots k with
    | none => .free
    | some .quarantined => .quarantined
    | some (.record r) =>
      match r.state with
      | .writing => .writing
      | .stored => .stored
      | .inBatch => .inBatch
  else .unscanned

/-- The record in slot `k`, when it holds one. -/
def State.rowOf (s : State) (k : Nat) : Option RecRow :=
  match lookup s.sm.slots k with
  | some (.record r) => some r
  | _ => none

def SlotRow.isIn (st : RecState) : SlotRow → Bool
  | .quarantined => false
  | .record r => decide (r.state = st)

/-- R131. -/
def State.freeCount (s : State) : Nat := if s.scanDone then Config.storeSlots - s.sm.slots.length else 0
def State.storedCount (s : State) : Nat := s.sm.slots.countP fun e => e.2.isIn .stored
def State.inBatchCount (s : State) : Nat := s.sm.slots.countP fun e => e.2.isIn .inBatch
def State.quarantinedCount (s : State) : Nat := s.sm.slots.countP fun e => decide (e.2 = .quarantined)

/-- Replaces the row of slot `k` when it holds a record. -/
def modRow (k : Nat) (f : RecRow → RecRow) (s : State) : State :=
  match s.rowOf k with
  | some r => { s with sm := { s.sm with slots := insertAt s.sm.slots k (.record (f r)) } }
  | none => s

/-- R53: whether the directory counts are shown. -/
def State.routeShown (s : State) : Bool := decide (s.route.state = .opened) || decide (s.route.state = .closing)

/-- R53. -/
def State.metersExpected (s : State) : Nat := if s.routeShown then s.dir.length else 0
def State.metersRead (s : State) : Nat := if s.routeShown then s.dir.countP fun m => decide (m.state = .read) else 0
def State.metersUnreachable (s : State) : Nat :=
  if s.routeShown then s.dir.countP fun m => decide (m.state = .unreachable) else 0

/-- R92: an entry counts as in flight in IN_RING and LISTENING. -/
def PollSub.inFlight : PollSub → Bool
  | .inRing _ => true
  | .listening _ => true
  | .queued => false
  | .holdoff _ => false

/-- R92: the in-flight count. -/
def State.inFlightCount (s : State) : Nat := s.poll.list.countP fun e => e.sub.inFlight

/-! ### The Status Page (R20, chapter 12.10) -/

/-- R166: the code of the batch state shown. -/
def State.batchCode (s : State) : Nat :=
  match s.up.batch with
  | none => 0
  | some b => batchStateCode b.state

/-- Chapter 12.10: the current value of Status Page word `n`. -/
def statusWord (s : State) (n : Nat) : Word :=
  match n with
  | 0 => flag s.scanDone 0 ||| num (routeStateCode s.route.state) 8 ||| flag s.faultLatched 16 ||| flag s.cmd.inFlight 17
  | 1 => place s.route.number 0
  | 2 => match s.route.activeSeg with
    | none => 0xFFFF#32
    | some g => num g 0
  | 3 => s.clk.ms
  | 4 => num s.metersExpected 0
  | 5 => num s.metersRead 0
  | 6 => num s.metersUnreachable 0
  | 7 => num s.poll.list.length 0
  | 8 => num s.inFlightCount 0
  | 9 => num s.freeCount 0
  | 10 => num s.storedCount 0
  | 11 => num s.inBatchCount 0
  | 12 => num s.sm.backlog.length 0
  | 13 => num s.tamper.list.length 0
  | 14 => place s.tamper.overflow 0
  | 15 => place s.up.lastId 0 ||| num s.batchCode 16
  | 16 => place s.ev.marks 0
  | 17 => place s.ev.notify 0
  | 18 => place s.ev.wake 0
  | 19 => flag s.flt.storeError 0 ||| flag s.flt.clockLost 1
  | 20 => s.flt.errorAddr
  | 21 => place s.cap.overruns 0
  | 22 => place s.cap.unjudged 0
  | 23 => place s.path.blockedCount 0
  | 24 => s.path.blockedAddr
  | 25 => num (blockReasonCode s.path.blockedReason) 0
  | 26 => place s.cap.unknownMeters 0
  | 27 => num s.quarantinedCount 0
  | 28 => s.sm.nextSeq
  | _ => 0

/-- R21: the 32 current values. -/
def statusWords (s : State) : List Word := (List.range 32).map (statusWord s)

/-- R20: the words whose value an event from `s` to `t` has changed (log entry 13). -/
def changedStatus (s t : State) : List Nat := (List.range 32).filter fun n => statusWord s n != statusWord t n

/-! ### The Insert Queue (R10 to R14) -/

/-- R16: the throttle mark after the number of entries becomes `n`. -/
def throttleAt (old : Bool) (n : Nat) : Bool :=
  if Config.throttleSet ≤ n then true else if n ≤ Config.throttleClear then false else old

/-- The queue with entries `es`, and the throttle mark that follows. -/
def Inserts.withEntries (i : Inserts) (es : List QEntry) : Inserts :=
  { i with entries := es, throttle := throttleAt i.throttle es.length }

/-- R10: an entry joins at the tail. -/
def Inserts.push (i : Inserts) (e : QEntry) : Inserts := i.withEntries (i.entries ++ [e])

/-- R10: a place is free and no producer waits for one. -/
def Inserts.room (i : Inserts) : Bool := decide (i.entries.length < Config.queuePlaces) && i.waits.isEmpty

/-- R10: producer `p` waits for a place. -/
def Inserts.isWaiting (i : Inserts) (p : Producer) : Bool := i.waits.any fun e => decide (e.1 = p)

/-- R10: `q` waits behind what `p` already waits with, or `p` begins to wait. -/
def Inserts.wait (i : Inserts) (p : Producer) (q : QWrite) : Inserts :=
  { i with
    waits :=
      if i.isWaiting p then i.waits.map fun e => if e.1 = p then (p, e.2 ++ [q]) else e else i.waits ++ [(p, [q])] }

/-- R10: a write with fixed data joins, or waits. -/
def Inserts.giveWord (i : Inserts) (p : Producer) (a : Nat) (data : Word) (notify : Bool) : Inserts :=
  if i.room then i.push ⟨a, data, p, notify⟩ else i.wait p (.word a data notify)

/-- R13: the newest entry for the word at `a`. -/
def Inserts.newest (i : Inserts) (a : Nat) : Option QEntry :=
  i.entries.foldl (fun r e => if e.addr = a then some e else r) none

/-- Replaces the data of the last entry for the word at `a`; `none` when there is no entry (R11). -/
def coalesce (a : Nat) (data : Word) : List QEntry → Option (List QEntry)
  | [] => none
  | e :: es =>
    match coalesce a data es with
    | some es' => some (e :: es')
    | none => if e.addr = a then some ({ e with data := data } :: es) else none

/-- R11, R20: a status write of word `n` with value `v` coalesces, or is already waiting, or joins, or waits. -/
def Inserts.giveStatus (i : Inserts) (sel : BitVec 3) (n : Nat) (v : Word) : Inserts :=
  match coalesce (statusAddr sel n) v i.entries with
  | some es => { i with entries := es }
  | none =>
    if i.waits.any fun e => decide (e.1 = .pathUnit) && e.2.contains (.status n) then i
    else if i.room then i.push ⟨statusAddr sel n, v, .pathUnit, false⟩
    else i.wait .pathUnit (.status n)

/-- R31, R32: word 0 is given behind words 1 to 7: it waits when it finds no place, and otherwise joins at the step
COMMAND_FLIGHT_END (log entry 12). -/
def Inserts.giveResponse0 (i : Inserts) : Inserts :=
  if i.room then { i with resp0 := true } else i.wait .commandUnit .response0

/-- R31: the running command's response: words 1 to 7 in ascending order, then word 0. -/
def giveResponse (t : State) (i : Inserts) : Inserts :=
  match t.cmd.running with
  | some ⟨_, _, some r⟩ =>
    ([1, 2, 3, 4, 5, 6, 7].foldl
      (fun j w => j.giveWord .commandUnit (responseAddr t.path.areaSel w) (r.results.getD (w - 1) 0) false) i).giveResponse0
  | _ => i

/-- R115: the header word that the marks of slot `k` give now. -/
def headerNow (t : State) (k : Nat) : Word :=
  match t.rowOf k with
  | some r => headerWord r.kind r.locked r.acked
  | none => 0

/-- R10: producer `p` gives `q`.  A response stands behind whatever `p` still waits with (R29), the Tamper Unit's behind an
earlier re-lock's header write too, also when its TAMPER_ACK gives none: the model's choice (log entry 34). -/
def giveOne (t : State) (i : Inserts) (p : Producer) (q : QWrite) : Inserts :=
  match q with
  | .word a data notify => i.giveWord p a data notify
  | .status n => i.giveStatus t.path.areaSel n (statusWord t n)
  | .header k => i.giveWord p (recordAddr t.path.areaSel k 0) (headerNow t k) false
  | .respond => if i.isWaiting p then i.wait p .respond else giveResponse t i
  | .response0 => i.giveResponse0

/-- Whether producer `p` still waits with a write of the word at `a`. -/
def Inserts.waitsWith (i : Inserts) (p : Producer) (a : Nat) : Bool :=
  i.waits.any fun e => decide (e.1 = p) && e.2.any fun q =>
    match q with
    | .word b _ _ => decide (b = a)
    | _ => false

/-- R115: the composition header of slot `k` has joined the queue. -/
def headerJoined (t : State) (i : Inserts) (k : Nat) : Bool :=
  !(i.waitsWith .storeManager (recordAddr t.path.areaSel k 0)) &&
    (match i.heldBody with
    | some h => decide (h.slot ≠ k)
    | none => true)

/-- R177: a composed record is given once the EMPTY write of its slot has joined. -/
def releaseBody (t : State) (i : Inserts) : Inserts :=
  match i.heldBody with
  | none => i
  | some h =>
    if i.waitsWith .uploadUnit (recordAddr t.path.areaSel h.slot 0) then i
    else h.writes.foldl (fun j q => giveOne t j .storeManager q) { i with heldBody := none }

/-- R115: re-lock header writes are given once the slot's composition header has joined. -/
def releaseLocks (t : State) (i : Inserts) : Inserts :=
  i.laterLocks.foldl
    (fun j k =>
      if headerJoined t j k then giveOne t j .tamperUnit (.header k) else { j with laterLocks := j.laterLocks ++ [k] })
    { i with laterLocks := [] }

/-- R125: the writes of a TAMPER_ACK in order, as far as they can be given. -/
def drainAcks (t : State) : Inserts → List QWrite → Inserts
  | i, [] => { i with ackFifo := [] }
  | i, .header k :: qs =>
    if headerJoined t i k then drainAcks t (giveOne t i .tamperUnit (.header k)) qs
    else { i with ackFifo := .header k :: qs }
  | i, q :: qs => drainAcks t (giveOne t i .tamperUnit q) qs

/-- What follows at the event at which writes have joined (R115, R125, R177).  Where one joining releases both a re-lock's
header write and a TAMPER_ACK's, the re-lock's goes first; the spec orders neither, and both carry the same data (log
entry 29). -/
def settle (t : State) (i : Inserts) : Inserts :=
  let j := releaseLocks t (releaseBody t i)
  drainAcks t j j.ackFifo

/-- `q` at the place a free choice names: at the end for 0, and otherwise before the `k`-th of `l` (log entry 10). -/
def placedAt {α : Type} (k : Nat) (q : α) (l : List α) : List α :=
  if k = 0 ∨ l.length < k then l ++ [q] else l.take (k - 1) ++ q :: l.drop (k - 1)

/-- Each of `qs` takes its place among `l` by the next free choice. -/
def interleave {α : Type} : List Nat → List α → List α → List α
  | _, [], l => l
  | ties, q :: qs, l => interleave ties.tail qs (placedAt (ties.headD 0) q l)

/-- What an event gives one after another: a write, or (`none`) what its writes have held back. -/
def giveNext (t : State) (i : Inserts) : Option (Producer × QWrite) → Inserts
  | some (p, q) => giveOne t i p q
  | none => settle t i

/-- The writes of an event from `s` to `t` go to the Insert Queue: those its rules give, in their order, and among them
the status writes of what it changed, each where the model's free choice puts it (R10, R20; log entry 10). -/
def finishInserts (s t : State) : Inserts :=
  let status := changedStatus s t
  (interleave t.ins.ties (status.map fun n => some (.pathUnit, .status n)) (t.ins.outbox.map some ++ [none])).foldl
    (giveNext t) { t.ins with outbox := [], ties := t.ins.ties.drop status.length }

/-- The end of an event from `s`: only the Insert Queue's part of `t` changes. -/
def finish (s t : State) : State := { t with ins := finishInserts s t }

/-- A step of the part: while RESET_N is asserted none is taken (R17, R190); a step that cannot be taken in `s` changes
nothing (log entry 1). -/
def event (can : Bool) (f : State → State) (s : State) : Host.Outcome State Fault Refusal :=
  .next (if !s.path.resetAsserted && can then finish s (f s) else s)

/-- A block gives `q` to the Insert Queue at the present event. -/
def give (p : Producer) (q : QWrite) (s : State) : State :=
  { s with ins := { s.ins with outbox := s.ins.outbox ++ [(p, q)] } }

/-- A block gives a write of `data` to the word at `a`. -/
def giveData (p : Producer) (a : Nat) (data : Word) (s : State) : State := give p (.word a data false) s

/-- R29, R31: the running command's status and results are handed back; the response follows the writes that `p` has
given before it. -/
def respondBehind (p : Producer) (r : Response) (s : State) : State :=
  give p .respond { s with cmd := { s.cmd with running := s.cmd.running.map fun x => { x with response := some r } } }

/-- R29: the running command ends with `status` and `results`. -/
def respond (status : Byte) (results : List Word) (s : State) : State :=
  respondBehind .commandUnit ⟨status, results, false⟩ s

/-! ### Inserted reads and the port (R13, R15, R19) -/

/-- The word the reading block at work waits to read: the scan, the load or the build (R192: the three never overlap). -/
def nextRead (s : State) : Option Nat :=
  match s.sm.scan with
  | .slots k ws => some (recordAddr s.path.areaSel k ws.length)
  | .rebuild (k :: _) none => some (recordAddr s.path.areaSel k 3)
  | .rebuild (k :: _) (some _) => some (recordAddr s.path.areaSel k 5)
  | .rebuild [] _ => none
  | .done =>
    match s.route.load with
    | some .number => some (imageAddr s.path.areaSel 1)
    | some (.header _ ws _) => some (imageAddr s.path.areaSel ws.length)
    | some (.entry _ _ i ws _) => some (entryAddr s.path.areaSel i ws.length)
    | none =>
      match s.up.batch with
      | some b =>
        if b.state = .building then (b.items[b.place]?).map fun it => recordAddr s.path.areaSel it.slot b.word else none
      | none => none

/-- R15: an inserted read waits for the port: it has no entry in the queue to answer it. -/
def readWaits (s : State) : Bool :=
  match nextRead s with
  | some a => (s.ins.newest a).isNone
  | none => false

/-- R63: the Judge Queue has no place for a completing burst. -/
def judgeFull (s : State) : Bool := decide (Config.judgePlaces ≤ s.cap.judgeQ.length)

/-- R15, R16, R63: the hold of the upstream access in progress has ended: it has the port before the part's own accesses. -/
def heldDue (s : State) : Bool :=
  match s.path.held with
  | some h => !s.ins.throttle && (decide (h.reason = .throttle) || !judgeFull s)
  | none => false

/-- R13, R15: the waiting inserted read can complete now: it is answered from the queue, or the port is its. -/
def readReady (s : State) : Bool :=
  match nextRead s with
  | some a =>
    (s.ins.newest a).isSome ||
      (!heldDue s && (s.ins.entries.isEmpty || decide (s.path.lastGrant = .queuedWrite)))
  | none => false

/-- R10: a place is free for a producer that waits. -/
def joinDue (s : State) : Bool := decide (s.ins.entries.length < Config.queuePlaces) && !s.ins.waits.isEmpty

/-- R15: the oldest queued write can be issued now.  A freed place is given to a waiting producer before a further one is freed
(R10; log entry 36), so a producer waits only beside a full queue, and the throttle (R16) keeps a release from coming between a
waiting header write and its place (R180). -/
def issueReady (s : State) : Bool :=
  !heldDue s && !joinDue s && !s.ins.entries.isEmpty && (!readWaits s || decide (s.path.lastGrant = .insertedRead))

/-- R13, R19: what the completed read hands over: the data and whether it is marked as in error. -/
def readResult (s : State) (d : Disturb) : Word × Bool :=
  match nextRead s with
  | none => (0, false)
  | some a =>
    match s.ins.newest a with
    | some e => (e.data, false)
    | none => let w := s.store.answer a d; (w.data, parityError w)

/-- R15, R19, R192: a completed inserted read has had the port for at least one BCLK edge, at which SLEEP_IND is sampled
(R186; log entry 31), and a parity error is latched.  The sample before FAULT is the model's choice: no rule orders the two
(log entry 31). -/
def completeRead (d : Disturb) (s : State) : State :=
  match nextRead s with
  | none => s
  | some a =>
    match s.ins.newest a with
    | some _ => s
    | none =>
      let t := { s with path := { s.path with lastGrant := .insertedRead }, ev := s.ev.sample }
      if parityError (s.store.answer a d) then latchStoreError a t else t

/-! ### The directory (R50 to R53) -/

/-- R50: the index of the entry holding a meter ID. -/
def findMeter (dir : List Meter) (id : Word) : Option Nat := dir.findIdx? fun m => decide (m.img.id = id)

/-- Changes the entry at index `i`. -/
def modMeter (i : Nat) (f : Meter → Meter) (s : State) : State := { s with dir := s.dir.modify i f }

/-- R85: READ and UNREACHABLE resolve a meter. -/
def MeterState.resolved : MeterState → Bool
  | .read => true
  | .unreachable => true
  | .expected => false
  | .heard => false
  | .polling => false

/-- R85: the segment's unresolved count falls by 1; in SWEEP it becomes DONE at 0. -/
def Segment.lower (g : Segment) : Segment :=
  let n := g.unresolved - 1
  { state := if g.state = .sweep ∧ n = 0 then .done else g.state, unresolved := n }

/-- R85: the segment's unresolved count rises by 1. -/
def Segment.rise (g : Segment) : Segment := { g with unresolved := g.unresolved + 1 }

/-- R85: what a meter of segment `g` moving from `old` to `new` does to the segment table. -/
def moveSegment (g : Nat) (old new : MeterState) (s : State) : State :=
  if new.resolved && !old.resolved then
    let t := { s with route := { s.route with segs := s.route.segs.modify g Segment.lower } }
    match s.route.segs[g]? with
    | some x => if x.state = .sweep ∧ x.lower.state = .done then raise .segmentDone t else t
    | none => t
  else if old.resolved && !new.resolved then
    { s with route := { s.route with segs := s.route.segs.modify g Segment.rise } }
  else s

/-- R52, R85: the meter at index `i` moves to `new`. -/
def setMeterState (i : Nat) (new : MeterState) (s : State) : State :=
  match s.dir[i]? with
  | none => s
  | some m => modMeter i (fun x => { x with state := new }) (moveSegment m.img.segment m.state new s)

end Sys2Proof.Machine
end

