-- ==== Sys2Proof/Machine/Tamper.lean ====
section
/-! DEFINITION. The Tamper Unit (chapter 6): causes, the Tamper List, re-locks, the step at composition, TAMPER_ACK. -/
namespace Sys2Proof.Machine

/-- R118, R121: an entry is created, or the overflow count rises; TAMPER is raised either way. -/
def createTamper (e : TamperEntry) (s : State) : State :=
  raise .tamper
    { s with
      tamper :=
        if s.tamper.list.length < Config.tamperPlaces then { s.tamper with list := s.tamper.list ++ [e] }
        else { s.tamper with overflow := satInc s.tamper.overflow } }

/-- R112: the list entry that stands for the uncomposed record of a meter of the present route. -/
def TamperEntry.awaits (route : Half) (meter : Word) (e : TamperEntry) : Bool :=
  decide (e.route = route) && decide (e.meter = meter) && e.slot.isNone

/-- R119: causes join the entry that stands for a meter's uncomposed record, if the list holds it. -/
def mergeTamper (meter : Word) (causes : Byte) (s : State) : State :=
  { s with
    tamper :=
      { s.tamper with
        list := s.tamper.list.map fun e =>
          if e.awaits s.route.number meter then { e with causes := e.causes ||| causes } else e } }

/-- R115: slot `k` is WRITING and its composition header has not joined the queue. -/
def headerPending (s : State) (k : Nat) : Bool :=
  match s.rowOf k with
  | some r => decide (r.state = .writing) && !headerJoined s s.ins k
  | none => false

/-- R116: the meter's first record is locked and its header written, while its slot still holds it. -/
def reLock (m : Meter) (s : State) : State :=
  match m.first with
  | none => s
  | some f =>
    match s.rowOf f.slot with
    | none => s
    | some r =>
      if r.seq = f.seq then
        let t := modRow f.slot (fun x => { x with locked := true }) s
        if headerPending s f.slot then { t with ins := { t.ins with laterLocks := t.ins.laterLocks ++ [f.slot] } }
        else giveData .tamperUnit (recordAddr t.path.areaSel f.slot 0) (headerNow t f.slot) t
      else s

/-- R113: late causes; `m` is the entry with the new causes added. -/
def lateCauses (i : Nat) (m : Meter) (new : Byte) (s : State) : State :=
  if m.pendingNote then mergeTamper m.img.id new s
  else
    let s1 := modMeter i (fun x => { x with pendingNote := true }) s
    let s2 := { s1 with sm := { s1.sm with backlog := s1.sm.backlog ++ [.note i] } }
    reLock m (createTamper ⟨s2.route.number, m.img.id, m.causes, none⟩ s2)

/-- R112: one addition of the causes `set` to the entry at index `i`. -/
def addCauses (i : Nat) (set : Byte) (s : State) : State :=
  match s.dir[i]? with
  | none => s
  | some m =>
    let new := set &&& ~~~m.causes
    if new = 0 then s
    else
      let m' := { m with causes := m.causes ||| new }
      let t := modMeter i (fun x => { x with causes := x.causes ||| new }) s
      match m.first with
      | some _ => lateCauses i m' new t
      | none =>
        if m.causes = 0 then createTamper ⟨t.route.number, m.img.id, new, none⟩ t
        else mergeTamper m.img.id new t

/-- R109: the per-burst causes METER, CLASH and COUNTER. -/
def burstCauses (img : MeterImage) (typeCode flags : Byte) (counter : Half) : Byte :=
  let distance := counter - img.refCounter
  causeIf ((flags &&& 0x0F#8) != 0) cMeter ||| causeIf (typeCode != img.typeCode) cClash |||
    causeIf (img.hasCounter && (distance == 0 || distance.msb)) cCounter

/-- R110: the confirmation causes ROLLBACK, EXCESS and IDLE. -/
def confirmCauses (img : MeterImage) (r : Reading) (th : Thresholds) : Byte :=
  if r.unit ≠ img.refReading.unit then 0
  else if r.value < img.refReading.value then cRollback
  else
    let rise := (r.value - img.refReading.value).toNat
    let limit := if img.maxDelta ≠ 0 then img.maxDelta.toNat else th.excess.toNat
    causeIf (decide (limit ≠ 0) && decide (limit < rise)) cExcess |||
      causeIf (img.mustConsume && decide (rise < th.low.toNat)) cIdle

/-- R114, step 5: the list entry of the composed record takes its slot and causes; the first such entry only. -/
def assignSlot (route : Half) (meter : Word) (slot : Nat) (causes : Byte) : List TamperEntry → List TamperEntry
  | [] => []
  | e :: es =>
    if e.awaits route meter then { e with slot := some slot, causes := causes } :: es
    else e :: assignSlot route meter slot causes es

/-- R114: the Tamper Unit's step at the composition of a record of the entry at index `i` into slot `k`. -/
def tamperAtComposition (i k : Nat) (note : Bool) (s : State) : State :=
  match s.dir[i]? with
  | none => s
  | some m =>
    let s1 :=
      modMeter i
        (fun x =>
          { x with written := m.causes, ackPending := false, pendingNote := if note then false else x.pendingNote }) s
    let s2 := modRow k (fun r => { r with locked := r.locked || m.causes != 0, acked := r.acked || m.ackPending }) s1
    { s2 with
      tamper :=
        { s2.tamper with
          records := if m.causes = 0 then s2.tamper.records else satInc s2.tamper.records
          list :=
            if m.ackPending || m.causes == 0 then s2.tamper.list
            else assignSlot s2.route.number m.img.id k m.causes s2.tamper.list } }

/-- R123, R124: one entry removed by TAMPER_ACK. -/
def ackEntry (s : State) (e : TamperEntry) : State :=
  match e.slot with
  | some k =>
    let t := modRow k (fun r => { r with acked := true }) s
    let q : QWrite :=
      if headerPending s k then .header k else .word (recordAddr t.path.areaSel k 0) (headerNow t k) false
    { t with ins := { t.ins with ackFifo := t.ins.ackFifo ++ [q] } }
  | none =>
    match findMeter s.dir e.meter with
    | some i => modMeter i (fun x => { x with ackPending := true }) s
    | none => s

/-- Chapter 12.6, R125: word 7 of the TAMPER_ACK response for the last entry removed. -/
def ackLastWord (e : TamperEntry) : Word :=
  (match e.slot with
    | some k => num k 0
    | none => 0xFFFF#32) ||| place e.causes 16

/-- R122 to R125: TAMPER_ACK after the scan check; the response follows the header writes, and any header write with which the
Tamper Unit already waits (log entry 34). -/
def tamperAckWork (k : Word) (s : State) : State :=
  let n := k.toNat
  if n = 0 ∨ s.tamper.list.length < n then respond stBadParam [] s
  else
    let gone := s.tamper.list.take n
    let s1 := { s with tamper := { s.tamper with list := s.tamper.list.drop n } }
    let s2 := gone.foldl ackEntry s1
    let last := gone.getLast?
    let results : List Word :=
      [k, num s2.tamper.list.length 0, num (gone.countP fun e => e.slot.isSome) 0,
        num (gone.countP fun e => e.slot.isNone) 0,
        (match last with
          | some e => place e.route 0
          | none => 0),
        (match last with
          | some e => e.meter
          | none => 0),
        (match last with
          | some e => ackLastWord e
          | none => 0)]
    { s2 with
      cmd := { s2.cmd with running := s2.cmd.running.map fun x => { x with response := some ⟨stOk, results, false⟩ } }
      ins := { s2.ins with ackFifo := s2.ins.ackFifo ++ [.respond] } }

end Sys2Proof.Machine
end

