-- ==== Sys2Proof/Machine/Records.lean ====
section
/-! DEFINITION. The Store Manager's records (chapter 7): composition (R138 to R143), the issue and the joining of queued
writes (R10, R12, R140), the end of a command's flight (R31, R32) and of a route (R163). -/
namespace Sys2Proof.Machine

/-! ### The Route Roster (R144, R145) -/

/-- R145: one more record of route `r`. -/
def rosterUp (r : Half) (ro : List RosterEntry) : List RosterEntry :=
  ro.map fun e => if e.route = r then { e with count := e.count + 1 } else e

/-- R144, R145: one record of route `r` fewer; an entry that is not open goes when its count falls to 0. -/
def rosterDown (r : Half) (ro : List RosterEntry) : List RosterEntry :=
  (ro.map fun e => if e.route = r then { e with count := e.count - 1 } else e).filter fun e =>
    !(decide (e.route = r) && decide (e.count = 0) && !e.isOpen)

/-- R144: the open mark is cleared, and an entry without records goes. -/
def rosterClose (ro : List RosterEntry) : List RosterEntry :=
  (ro.map fun e => { e with isOpen := false }).filter fun e => decide (e.count ≠ 0)

/-! ### The contents of a record (R133 to R135, chapter 12.6) -/

/-- R198: the repeat field holds the count up to 31. -/
def repeatField (c : Byte) : Nat := if c.toNat ≤ 31 then c.toNat else 31

/-- R133: the source of reading, unit, reception time and fix. -/
def recordSource (m : Meter) : Confirmed :=
  match m.confirmed with
  | some c => c
  | none =>
    match m.window.getLast? with
    | some c => ⟨c.reading, c.stamp, c.fix⟩
    | none => ⟨⟨0, 0⟩, 0, none⟩

/-- R133: words 7 to 9: the fix, or the absent fix. -/
def fixWords : Option BurstFix → List Word
  | some f => [f.lat, f.lon, f.age]
  | none => [0, 0, Config.allOnes]

/-- R133: words 10 to 12: best RSSI, learned hop count, last counter, hop IDs. -/
def pathWords (m : Meter) : List Word :=
  let head : Word := place (m.best.getD 0) 0 ||| place (m.lastCounter.getD 0) 16
  match m.learned with
  | some l => [head ||| place l.path.hops 8, l.path.hop1, l.path.hop2]
  | none => [head ||| num 0xFF 8, 0, 0]

/-- R133: body words 1 to 15 of a READING, MISS or NOTE record. -/
def recordBody (m : Meter) (seq : Word) (route : Half) (causes : Byte) (word13 : Word) : List Word :=
  let src := recordSource m
  [seq,
    place route 0 ||| place src.reading.unit 16 ||| num (m.votes.toNat % 8) 24 ||| num (repeatField m.repeats) 27,
    m.img.id,
    src.reading.value.extractLsb' 0 32,
    place (src.reading.value.extractLsb' 32 16) 0 ||| place m.img.typeCode 16 ||| place causes 24,
    src.stamp] ++ fixWords src.fix ++ pathWords m ++ [word13, 0, 0]

/-- R135: body words 1 to 15 of a SUMMARY record. -/
def summaryBody (s : State) (seq : Word) : List Word :=
  [seq, place s.route.number 0, 0, num s.metersExpected 0, num s.metersRead 0, place s.route.missed 0,
    num s.metersUnreachable 0, place s.tamper.records 0, place s.poll.sent 0, place s.poll.answered 0,
    place s.cap.routeJudged 0, place s.cap.routeUnknown 0, place s.cap.routeOverruns 0, 0, 0]

/-! ### Composition -/

/-- R142: the lowest slot number from `n` up that has no row listed. -/
def lowestFree : Nat → List (Nat × SlotRow) → Nat
  | n, [] => n
  | n, (k, _) :: m => if k = n then lowestFree (n + 1) m else n

/-- R138: a record can be composed. -/
def canCompose (s : State) : Bool :=
  s.scanDone && !s.sm.backlog.isEmpty && decide (0 < s.freeCount) && !s.faultLatched && s.sm.nextSeq != 0 &&
    !(s.ins.isWaiting .storeManager) && s.ins.heldBody.isNone

def Request.kind : Request → Kind
  | .reading _ => .reading
  | .miss _ _ => .miss
  | .note _ => .note
  | .summary => .summary

/-- The directory index a request names. -/
def Request.index : Request → Option Nat
  | .reading i => some i
  | .miss i _ => some i
  | .note i => some i
  | .summary => none

/-- R134: word 13 of a record of entry `m`. -/
def Request.word13 (m : Meter) : Request → Word
  | .miss _ r => num (missReasonCode r) 0
  | .note _ =>
    match m.first with
    | some f => f.seq
    | none => 0
  | .reading _ => 0
  | .summary => 0

/-- R139, steps 1 to 5: the request leaves, the slot's row is taken, the number and the roster advance. -/
def takeSlot (req : Request) (rest : List Request) (k : Nat) (s : State) : State :=
  { s with
    sm :=
      { s.sm with
        backlog := rest
        slots := insertAt s.sm.slots k (.record ⟨.writing, req.kind, s.sm.nextSeq, s.route.number, false, false⟩)
        nextSeq := s.sm.nextSeq + 1
        roster := rosterUp s.route.number s.sm.roster } }

/-- R139, steps 6 and 7: the first-record slot and the Tamper Unit's step. -/
def markComposed (req : Request) (k : Nat) (seq : Word) (s : State) : State :=
  match req with
  | .reading i => tamperAtComposition i k false (modMeter i (fun m => { m with first := some ⟨k, seq⟩ }) s)
  | .miss i _ => tamperAtComposition i k false (modMeter i (fun m => { m with first := some ⟨k, seq⟩ }) s)
  | .note i => tamperAtComposition i k true s
  | .summary => s

/-- R139, step 8: the body as the entry and the route counts now stand. -/
def composedBody (req : Request) (seq : Word) (s : State) : List Word :=
  match req.index with
  | none => summaryBody s seq
  | some i =>
    match s.dir[i]? with
    | some m => recordBody m seq s.route.number m.written (req.word13 m)
    | none => List.replicate 15 0

/-- R140: body words 1 to 15 in ascending order, then the header with an issue notice requested. -/
def recordWrites (sel : BitVec 3) (k : Nat) (body : List Word) (header : Word) : List QWrite :=
  (List.range 15).map (fun n => QWrite.word (recordAddr sel k (n + 1)) (body.getD n 0) false) ++
    [.word (recordAddr sel k 0) header true]

/-- R139: the head of the Backlog is composed into the lowest FREE slot. -/
def compose (s : State) : State :=
  match s.sm.backlog with
  | [] => s
  | req :: rest =>
    let k := lowestFree 0 s.sm.slots
    let t := markComposed req k s.sm.nextSeq (takeSlot req rest k s)
    let held : HeldBody :=
      ⟨k, recordWrites t.path.areaSel k (composedBody req s.sm.nextSeq t) (headerNow t k)⟩
    let u := { t with ins := { t.ins with heldBody := some held } }
    if Config.storeLow < s.freeCount ∧ u.freeCount ≤ Config.storeLow then raise .storeLow u else u

/-- COMPOSITION (R138, R139). -/
def execComposition (s : State) : Host.Outcome State Fault Refusal := event (canCompose s) compose s

/-! ### Issue (R12, R140, R163) -/

/-- R163: the route completes. -/
def completeRoute (s : State) : State :=
  raise .routeDone
    { s with
      route :=
        { s.route with
          state := .noRoute, number := 0, params := ⟨0, 0, 0, 0, 0, 0, 0, 0⟩, segs := [], activeSeg := none }
      dir := []
      sm := { s.sm with roster := rosterClose s.sm.roster } }

/-- R140: the issue notice of the composition header of slot `k`: its row moves from WRITING to STORED, and by R130 no other
row moves; a SUMMARY takes the route from CLOSING to NO_ROUTE (R35, R163). -/
def headerIssued (k : Nat) (s : State) : State :=
  match s.rowOf k with
  | none => s
  | some r =>
    if r.state = .writing then
      let t := modRow k (fun x => { x with state := .stored }) s
      if r.kind = .summary ∧ s.route.state = .closing then completeRoute t else t
    else s

/-- R12: the oldest entry is written to the store with all byte enables and even parity; its producer is told when it
asked to be. -/
def issueHead (s : State) : State :=
  match s.ins.entries with
  | [] => s
  | e :: es =>
    let t :=
      { s with
        store := s.store.writeOwn e.addr e.data
        ins := s.ins.withEntries es
        path := { s.path with lastGrant := .queuedWrite } }
    if e.notify then
      match windowOf s.path.areaSel e.addr with
      | .record k _ => headerIssued k t
      | _ => t
    else t

/-- INSERT_ISSUE (R12, R15). -/
def execInsertIssue (s : State) : Host.Outcome State Fault Refusal := event (issueReady s) issueHead s

/-! ### Joining the Insert Queue (R10, R31, R32) -/

/-- R31: word 0 as it is fixed when it joins. -/
def response0Word (c : Command) : Word :=
  match c.running with
  | some ⟨code, tag, some r⟩ => responseWord0 tag code r.status c.collision r.notCleared
  | some ⟨code, tag, none⟩ => responseWord0 tag code 0 c.collision false
  | none => 0

/-- R32: response word 0 joins and the command's flight ends. -/
def endFlight (s : State) : State :=
  raise .commandDone
    { s with
      ins := { s.ins.push ⟨responseAddr s.path.areaSel 0, response0Word s.cmd, .commandUnit, false⟩ with resp0 := false }
      cmd := { s.cmd with inFlight := false, collision := false, running := none } }

/-- R10, R20, R31: the write `q` of producer `p` takes a place. -/
def joinWrite (p : Producer) (q : QWrite) (s : State) : State :=
  match q with
  | .word a data notify => { s with ins := s.ins.push ⟨a, data, p, notify⟩ }
  | .status n => { s with ins := s.ins.push ⟨statusAddr s.path.areaSel n, statusWord s n, p, false⟩ }
  | .header k => { s with ins := s.ins.push ⟨recordAddr s.path.areaSel k 0, headerNow s k, p, false⟩ }
  | .respond => { s with ins := giveResponse s s.ins }
  | .response0 => endFlight s

def QWrite.isRespond : QWrite → Bool
  | .respond => true
  | .word _ _ _ => false
  | .status _ => false
  | .header _ => false
  | .response0 => false

/-- R10: what `p` still has to give begins to wait anew, behind the others (log entry 11) and before any producer that
begins to wait at this same event, such as the Store Manager with a record body this joining releases (R177; the model's
choice, log entry 33); a response that stood behind the write that joined is given (R29). -/
def waitAgain (p : Producer) (qs : List QWrite) (s : State) : State :=
  let more := qs.dropWhile QWrite.isRespond
  let i : Inserts := { s.ins with waits := if more.isEmpty then s.ins.waits else s.ins.waits ++ [(p, more)] }
  { s with
    ins :=
      match qs with
      | .respond :: _ => giveResponse s i
      | _ => i }

/-- R10: the producer that began to wait first gains a place for one write; its later writes wait anew before what the
joining releases begins to wait (`waitAgain`; log entries 11, 33). -/
def joinHead (s : State) : State :=
  match s.ins.waits with
  | (p, q :: qs) :: rest => waitAgain p qs (joinWrite p q { s with ins := { s.ins with waits := rest } })
  | (_, []) :: rest => { s with ins := { s.ins with waits := rest } }
  | [] => s

/-- R10: a place is free. -/
def placeFree (s : State) : Bool := decide (s.ins.entries.length < Config.queuePlaces)

/-- INSERT_QUEUE_JOIN (R10). -/
def execInsertQueueJoin (s : State) : Host.Outcome State Fault Refusal :=
  event (joinDue s) joinHead s

/-- Response word 0 is the write whose turn it is. -/
def response0First (s : State) : Bool :=
  match s.ins.waits with
  | (.commandUnit, .response0 :: _) :: _ => true
  | _ => false

/-- R32: word 0 joins when a place is free for it, and otherwise begins to wait. -/
def flightEnd (s : State) : State :=
  if s.ins.resp0 then
    if s.ins.room then endFlight s else { s with ins := { s.ins with resp0 := false }.wait .commandUnit .response0 }
  else joinHead s

/-- COMMAND_FLIGHT_END (R32). -/
def execCommandFlightEnd (s : State) : Host.Outcome State Fault Refusal :=
  event (s.ins.resp0 || (placeFree s && response0First s)) flightEnd s

end Sys2Proof.Machine
end

