-- ==== Sys2Proof/Machine/Poll.lean ====
section
/-! DEFINITION. Segments and polls (chapter 5): the walk of a segment left, frames, reports, windows and hold-offs. -/
namespace Sys2Proof.Machine

/-- The hop IDs a hop count reaches; the others are 0 (R97, R133). -/
def relayPath (hops : Byte) (hop1 hop2 : Word) : RelayPath :=
  ⟨hops, if 1 ≤ hops.toNat then hop1 else 0, if 2 ≤ hops.toNat then hop2 else 0⟩

/-- R92: the Poll List entry of the meter at index `i`. -/
def pollOf (s : State) (i : Nat) : Option PollEntry := s.poll.list.find? fun e => decide (e.index = i)

/-- Changes the Poll List entry of the meter at index `i` in its place. -/
def modPoll (i : Nat) (f : PollEntry → PollEntry) (s : State) : State :=
  { s with poll := { s.poll with list := s.poll.list.map fun e => if e.index = i then f e else e } }

/-- R105: the entry of the meter at index `i` leaves the list; a TX slot stays as it is. -/
def removePoll (i : Nat) (s : State) : State :=
  { s with poll := { s.poll with list := s.poll.list.filter fun e => decide (e.index ≠ i) } }

/-- R93: an entry is added for the meter at index `i`. -/
def addPoll (i : Nat) (s : State) : State :=
  setMeterState i .polling
    (modMeter i (fun m => { m with attempts := 0 })
      { s with poll := { s.poll with list := s.poll.list ++ [⟨i, 1, none, .queued⟩] } })

/-- R86: the entries of segment `g` that the walk adds, in directory order. -/
def walkOf (s : State) (g : Nat) : List Nat :=
  (List.range s.dir.length).filter fun i =>
    match s.dir[i]? with
    | some m => decide (m.img.segment = g) && (decide (m.state = .expected) || decide (m.state = .heard))
    | none => false

/-- R86: segment `g` after the walk: SWEEP while a meter is unresolved, else DONE. -/
def leftState (s : State) (g : Nat) : SegState :=
  match s.route.segs[g]? with
  | some x => if 0 < x.unresolved then .sweep else .done
  | none => .done

/-- R86: the segment `g` is left. -/
def leaveSegment (g : Nat) (s : State) : State :=
  let t := (walkOf s g).foldl (fun u i => addPoll i u) s
  let st := leftState t g
  let u :=
    { t with route := { t.route with segs := t.route.segs.modify g (fun x => { x with state := st }), activeSeg := none } }
  if st = .done then raise .segmentDone u else u

/-- R86, R155: the active segment is left, if there is one. -/
def leaveActive (s : State) : State :=
  match s.route.activeSeg with
  | some g => leaveSegment g s
  | none => s

/-- The number of entries the walk of a leave adds. -/
def walkCount (s : State) : Nat :=
  match s.route.activeSeg with
  | some g => (walkOf s g).length
  | none => 0

/-! ### Frames (R96, R97) -/

def State.txState (s : State) (k : Nat) : TxState := getD .free s.poll.tx k

/-- Sets the state of TX slot `k`. -/
def setTx (k : Nat) (v : TxState) (s : State) : State :=
  { s with poll := { s.poll with tx := setD .free s.poll.tx k v } }

/-- R96: the first FREE slot from the ring position on. -/
def nextTx (s : State) : Option Nat :=
  ((List.range Config.txSlots).map fun d => (s.poll.ringPos + d) % Config.txSlots).find? fun k =>
    decide (s.txState k = .free)

/-- R96: the QUEUED entry nearest the head. -/
def firstQueued (s : State) : Option PollEntry := s.poll.list.find? fun e => decide (e.sub = .queued)

/-- R96: a frame can be begun. -/
def canFrame (s : State) : Bool :=
  !(s.ins.isWaiting .pollUnit) && decide (s.inFlightCount < Config.inFlightLimit) && (firstQueued s).isSome &&
    (nextTx s).isSome

/-- R96: learned path, else stored path, else direct. -/
def framePath (m : Meter) : RelayPath :=
  match m.learned with
  | some l => l.path
  | none =>
    match m.img.stored with
    | some p => p
    | none => relayPath 0 0 0

/-- R97, R99: the listen time of a path. -/
def listenTime (p : RouteParams) (path : RelayPath) : Word :=
  BitVec.ofNat 32 (p.listenBase.toNat + p.listenHop.toNat * path.hops.toNat)

/-- R96: the poll tag of the next frame; never 0. -/
def nextTag (t : Half) : Half := if t = 0xFFFF#16 then 1 else t + 1

/-- R97: words 0 to 5 of a frame. -/
def frameWords (id : Word) (path : RelayPath) (attempt : Byte) (tag : Half) (listen : Word) : List Word :=
  [id, 3#32 ||| place path.hops 8 ||| place attempt 16, path.hop1, path.hop2, place tag 0, listen]

/-- R97: the eight writes of a frame in TX slot `k`. -/
def frameWrites (sel : BitVec 3) (k : Nat) (ws : List Word) : List QWrite :=
  (List.range 6).map (fun n => QWrite.word (txAddr sel k n) (ws.getD n 0) false) ++
    [.word (txAddr sel k 6) (place (crc16 (wordBytes ws)) 0) false, .word (txAddr sel k 7) Config.ready false]

/-- R96, R97: a frame is begun for entry `e` of meter `m` in TX slot `k`. -/
def startFrame (e : PollEntry) (m : Meter) (k : Nat) (s : State) : State :=
  let path := framePath m
  let tag := nextTag s.poll.tag
  let s1 := setTx k .awaiting (modPoll e.index (fun x => { x with sub := .inRing k, path := some path }) s)
  let s2 := { s1 with poll := { s1.poll with tag := tag, ringPos := (k + 1) % Config.txSlots } }
  let s3 := modMeter e.index (fun x => { x with attempts := e.attempt }) s2
  (frameWrites s.path.areaSel k (frameWords m.img.id path e.attempt tag (listenTime s.route.params path))).foldl
    (fun u q => give .pollUnit q u) s3

/-- R96: the oldest QUEUED entry gets the next FREE slot. -/
def beginFrame (s : State) : State :=
  match firstQueued s, nextTx s with
  | some e, some k =>
    match s.dir[e.index]? with
    | some m => startFrame e m k s
    | none => s
  | _, _ => s

/-- FRAME_BEGIN (R96). -/
def execFrameBegin (s : State) : Host.Outcome State Fault Refusal := event (canFrame s) beginFrame s

/-! ### Reports, windows and hold-offs (R98 to R103) -/

/-- The entry IN_RING in TX slot `k`. -/
def inRingAt (s : State) (k : Nat) : Option PollEntry := s.poll.list.find? fun e => decide (e.sub = .inRing k)

/-- R102: the attempt of entry `e` fails. -/
def failAttempt (e : PollEntry) (s : State) : State :=
  if e.attempt.toNat < s.route.params.pollRetries.toNat + 1 then
    modPoll e.index (fun x => { x with sub := .holdoff (s.clk.ms + s.route.params.holdoff.setWidth 32) }) s
  else raise .pollFailed (setMeterState e.index .unreachable (removePoll e.index s))

/-- R99: the expiry time of the window of entry `e`. -/
def expiryOf (s : State) (e : PollEntry) : Word :=
  s.clk.ms + listenTime s.route.params (e.path.getD (relayPath 0 0 0))

/-- R98: a report of value `v` on TX slot `k`. -/
def takeReport (k : Nat) (v : Word) (s : State) : State :=
  if s.txState k = .free then s
  else if v = Config.done then
    match inRingAt s k with
    | some e =>
      let t := modPoll e.index (fun x => { x with sub := .listening (expiryOf s e) }) (setTx k .free s)
      { t with poll := { t.poll with sent := satInc t.poll.sent } }
    | none => setTx k .free s
  else if v = Config.failed then
    match inRingAt s k with
    | some e => failAttempt e (setTx k .free s)
    | none => setTx k .free s
  else s

/-- R100: the queued READY write of TX slot `k` was cancelled: the frame is withdrawn. -/
def withdrawFrame (k : Nat) (s : State) : State :=
  let t := setTx k .free s
  match inRingAt s k with
  | some e => modPoll e.index (fun x => { x with sub := .queued, path := none }) t
  | none => t

/-- R101: the window of the meter at index `i` has reached its expiry; none is taken while the clock is held (R194). -/
def canExpire (s : State) (i : Nat) : Bool :=
  match pollOf s i with
  | some e =>
    match e.sub with
    | .listening t => !s.flt.clockLost && reached s.clk.ms t
    | _ => false
  | none => false

/-- R101, R102: the expiry is taken. -/
def expire (i : Nat) (s : State) : State :=
  match pollOf s i with
  | some e => failAttempt e s
  | none => s

/-- LISTEN_EXPIRY (R101). -/
def execListenExpiry (i : Nat) (s : State) : Host.Outcome State Fault Refusal := event (canExpire s i) (expire i) s

/-- R103: the hold-off of the meter at index `i` has reached its release time; none is taken while the clock is held
(R194). -/
def canRelease (s : State) (i : Nat) : Bool :=
  match pollOf s i with
  | some e =>
    match e.sub with
    | .holdoff t => !s.flt.clockLost && reached s.clk.ms t
    | _ => false
  | none => false

/-- R103: the entry joins the tail QUEUED with the next attempt. -/
def release (i : Nat) (s : State) : State :=
  match pollOf s i with
  | some e =>
    let t := removePoll i s
    { t with poll := { t.poll with list := t.poll.list ++ [⟨e.index, e.attempt + 1, none, .queued⟩] } }
  | none => s

/-- HOLDOFF_RELEASE (R103). -/
def execHoldoffRelease (i : Nat) (s : State) : Host.Outcome State Fault Refusal := event (canRelease s i) (release i) s

end Sys2Proof.Machine
end

