-- ==== Sys2Proof/Machine/Judge.lean ====
section
/-! DEFINITION. The Capture Unit (chapter 4, section 3.3): position fix, arming, completion, judgement, votes, verdicts. -/
namespace Sys2Proof.Machine

/-- A capture slot with every mark clear (R59). -/
def CapSlot.clear : CapSlot := ⟨false, false, 0, none, false⟩

def State.capSlot (s : State) (k : Nat) : CapSlot := getD CapSlot.clear s.cap.slots k

/-- Changes the marks of capture slot `k`. -/
def modCap (k : Nat) (f : CapSlot → CapSlot) (s : State) : State :=
  { s with cap := { s.cap with slots := setD CapSlot.clear s.cap.slots k (f (s.capSlot k)) } }

/-- The shadow word under key `k` (R5). -/
def State.shadowWord (s : State) (k : Nat) : Word := getD 0 s.path.shadow k

/-! ### Position fix (R57, R58) -/

/-- R57: a commit on Position Slot word 3, after the shadow has taken it. -/
def commitPosition (s : State) : State :=
  let w3 := s.shadowWord (positionKey 3)
  let new : PosFix :=
    ⟨s.shadowWord (positionKey 0), s.shadowWord (positionKey 1), s.shadowWord (positionKey 2), bits w3 0 8, bits w3 16 16⟩
  let same :=
    match s.cap.fix with
    | some f => decide (f.seq = new.seq)
    | none => false
  { s with cap := { s.cap with fix := if same then s.cap.fix else some new } }

/-- R58: the fix of a burst armed at `stamp` with the fix `taken`. -/
def freshFix (taken : Option PosFix) (stamp : Word) (limit : Half) : Option BurstFix :=
  match taken with
  | none => none
  | some f =>
    if f.quality ≠ 0 ∧ reached stamp f.time = true ∧ (stamp - f.time).toNat ≤ limit.toNat then
      some ⟨f.lat, f.lon, stamp - f.time⟩
    else none

/-! ### Arming and completion (R60 to R62) -/

/-- R61: a burst of slot `k` whose verdict is still to be written. -/
def Burst.marks (k : Nat) (b : Burst) : Bool := decide (b.slot = k) && b.mark

/-- R61: the arming of slot `k` finds an overrun. -/
def overrunAt (s : State) (k : Nat) : Bool :=
  (s.capSlot k).unread || s.cap.judgeQ.any (Burst.marks k) || s.cap.deferred.any (Burst.marks k)

/-- R61: the slot mark of a burst of slot `k` is cleared. -/
def Burst.unmark (k : Nat) (b : Burst) : Burst := if b.slot = k then { b with mark := false } else b

/-- R82: the route's overruns are counted in LOADING, OPEN and CLOSING. -/
def countsRouteOverruns : RouteState → Bool
  | .noRoute => false
  | .loading => true
  | .opened => true
  | .closing => true

/-- R61: what an overrun found at the arming of slot `k` does. -/
def takeOverrun (k : Nat) (s : State) : State :=
  raise .overrun
    { s with
      cap :=
        { s.cap with
          overruns := satInc s.cap.overruns
          routeOverruns :=
            if countsRouteOverruns s.route.state then satInc s.cap.routeOverruns else s.cap.routeOverruns
          judgeQ := s.cap.judgeQ.map (Burst.unmark k)
          deferred := s.cap.deferred.map (Burst.unmark k) } }

/-- R60: a write to word 0 arms slot `k`. -/
def armSlot (k : Nat) (s : State) : State :=
  let found := overrunAt s k
  let t := if found then takeOverrun k s else s
  modCap k
    (fun c => { armed := true, unread := if found then false else c.unread, stamp := s.clk.ms, fix := s.cap.fix, overrun := found })
    t

/-- The verdict flags a burst carries from its arming (R59). -/
def burstFlags (overrun : Bool) : Word := if overrun then overrunFlag else 0

/-- R62: the interim verdict word of the burst that completes in slot `k`. -/
def pendingWord (s : State) (k : Nat) : Word := verdictWord vPending (burstFlags (s.capSlot k).overrun) Config.noIndex

/-- R62: the burst of slot `k` as its commit completes it. -/
def completedBurst (s : State) (k : Nat) : Burst :=
  let c := s.capSlot k
  { slot := k, mark := true, words := (List.range 8).map fun w => s.shadowWord (captureKey k w)
    word14 := s.shadowWord (captureKey k 14), stamp := c.stamp, fix := c.fix, overrun := c.overrun }

/-- R62: the burst of slot `k` joins the Judge Queue and the armed mark is cleared. -/
def completeSlot (k : Nat) (s : State) : State :=
  let t := modCap k (fun c => { c with armed := false }) s
  { t with cap := { t.cap with judgeQ := t.cap.judgeQ ++ [completedBurst s k] } }

/-! ### Fields of a burst (chapter 12.3) -/

def Burst.word (b : Burst) (n : Nat) : Word := b.words.getD n 0
def Burst.meter (b : Burst) : Word := b.word 0
def Burst.typeCode (b : Burst) : Byte := bits (b.word 1) 0 8
def Burst.meterFlags (b : Burst) : Byte := bits (b.word 1) 8 8
def Burst.counter (b : Burst) : Half := bits (b.word 1) 16 16
def Burst.reading (b : Burst) : Reading := ⟨(bits (b.word 3) 0 16 ++ b.word 2 : BitVec 48), bits (b.word 3) 16 8⟩
def Burst.kind (b : Burst) : Byte := bits (b.word 3) 24 8
def Burst.hops (b : Burst) : Byte := bits (b.word 4) 0 8
def Burst.path (b : Burst) : RelayPath := relayPath b.hops (b.word 5) (b.word 6)
def Burst.rssi (b : Burst) : Byte := bits b.word14 0 8

/-- R68: the check code agrees. -/
def Burst.crcGood (b : Burst) : Bool :=
  crc16 (wordBytes [b.word 0, b.word 1, b.word 2, b.word 3, b.word 4, b.word 5, b.word 6]) == bits (b.word 7) 0 16

/-- R69: the frame fields are in range. -/
def Burst.frameGood (b : Burst) : Bool :=
  (b.kind == 1#8 || b.kind == 2#8) &&
    (b.hops == 0#8 || (b.hops == 1#8 && b.word 5 != 0 && b.word 5 != b.meter) ||
      (b.hops == 2#8 && b.word 5 != 0 && b.word 6 != 0 && b.word 5 != b.meter && b.word 6 != b.meter &&
        b.word 5 != b.word 6))

/-- R70: signed dBm at the floor or above it. -/
def signalGood (rssi : Byte) (floor : Half) : Bool := decide (floor.toInt ≤ rssi.toInt)

/-! ### Verdicts (R81) -/

/-- R81: the final verdict of burst `b`, written when its slot mark is set. -/
def finalVerdict (b : Burst) (code : Byte) (flags : Word) (index : Half) (s : State) : State :=
  if b.mark then
    giveData .captureUnit (captureAddr s.path.areaSel b.slot 15) (verdictWord code flags index)
      (modCap b.slot (fun c => { c with unread := true }) s)
  else s

/-- A final verdict that is not accepted: burst flags and index 0xFFFF. -/
def refuseBurst (b : Burst) (code : Byte) (s : State) : State :=
  finalVerdict b code (burstFlags b.overrun) Config.noIndex s

/-! ### What every accepted burst does (R72, R73) -/

/-- R72: the better of two signals. -/
def betterRssi (old : Option Byte) (rssi : Byte) : Option Byte :=
  match old with
  | none => some rssi
  | some o => if o.toInt < rssi.toInt then some rssi else some o

/-- R73: the learned path after a burst over `p` at `rssi`. -/
def learnPath (old : Option Learned) (p : RelayPath) (rssi : Byte) : Option Learned :=
  if p.hops = 0 then some ⟨p, rssi⟩
  else
    match old with
    | none => some ⟨p, rssi⟩
    | some l =>
      if p.hops.toNat < l.path.hops.toNat ∨ (l.path.hops = p.hops ∧ l.rssi.toInt < rssi.toInt) then some ⟨p, rssi⟩
      else some l

/-- R72, steps 1 to 3. -/
def heardMeter (b : Burst) (m : Meter) : Meter :=
  { m with
    flags := m.flags ||| b.meterFlags
    best := betterRssi m.best b.rssi
    learned := learnPath m.learned b.path b.rssi }

/-! ### Confirmation (R74, R76 to R79) -/

/-- R75, R77: the candidates whose reading is `r`. -/
def votesFor (window : List Candidate) (r : Reading) : Nat := window.countP fun c => decide (c.reading = r)

/-- R77: the reading held by the most candidates; among equals, that of the latest. -/
def windowWinner (window : List Candidate) : Option Candidate :=
  window.foldl
    (fun best c =>
      match best with
      | none => some c
      | some o => if votesFor window o.reading ≤ votesFor window c.reading then some c else some o)
    none

/-- R78, steps 1, 2 and 3: the reading is fixed and the meter is READ. -/
def fixReading (i : Nat) (c : Confirmed) (matched : Bool) (s : State) : State :=
  setMeterState i .read
    (modMeter i (fun m => { m with confirmed := some c, votes := if matched then m.votes + 1 else m.votes }) s)

/-- R104, R106: the Poll Unit removes the meter's entry; a matched response is counted as answered. -/
def endPoll (i : Nat) (matched : Bool) (s : State) : State :=
  let t := removePoll i s
  { t with poll := { t.poll with answered := if matched then satInc t.poll.answered else t.poll.answered } }

/-- R137: a READING request joins the Backlog and the record-request mark is set. -/
def requestReading (i : Nat) (s : State) : State :=
  let t := modMeter i (fun m => { m with requested := true }) s
  { t with sm := { t.sm with backlog := t.sm.backlog ++ [.reading i] } }

/-- R78: a confirmation of the meter `img` at index `i` with the causes found at it (R110, R111). -/
def confirm (i : Nat) (c : Confirmed) (matched : Bool) (causes : Byte) (s : State) : State :=
  requestReading i (addCauses i causes (endPoll i matched (fixReading i c matched s)))

/-- R76: the candidate a vote adds. -/
def Burst.candidate (b : Burst) (limit : Half) : Candidate :=
  ⟨b.reading, b.counter, b.stamp, freshFix b.fix b.stamp limit, b.rssi, b.path⟩

/-- R79: a vote that does not confirm makes an EXPECTED or UNREACHABLE meter HEARD. -/
def heardState : MeterState → MeterState
  | .expected => .heard
  | .unreachable => .heard
  | .heard => .heard
  | .polling => .polling
  | .read => .read

/-- The TAMPER flag when a hand-over has found a cause (R72, R111). -/
def tamperIf (found : Byte) : Word := if found = 0 then 0 else tamperFlag

/-- R76, R77, R79: a vote for entry `m` at index `i`; `flags` are the verdict flags so far. -/
def castVote (b : Burst) (i : Nat) (m : Meter) (flags : Word) (s : State) : State :=
  let c := b.candidate s.route.params.staleLimit
  let window := m.window ++ [c]
  let t := modMeter i (fun x => { x with window := window, votes := x.votes + 1, lastCounter := some b.counter }) s
  let index : Half := BitVec.ofNat 16 i
  if s.route.params.votesNeeded.toNat ≤ votesFor window b.reading then
    let found := confirmCauses m.img b.reading s.route.active
    finalVerdict b vConfirmed (flags ||| tamperIf found) index (confirm i ⟨b.reading, c.stamp, c.fix⟩ false found t)
  else if 4 ≤ window.length then
    let w := (windowWinner window).getD c
    let found := confirmCauses m.img w.reading s.route.active ||| cUnstable
    finalVerdict b vConfirmed (flags ||| tamperIf found) index (confirm i ⟨w.reading, w.stamp, w.fix⟩ false found t)
  else finalVerdict b vAccepted flags index (setMeterState i (heardState m.state) t)

/-- R80: the burst repeats the confirmed reading. -/
def isRepeat (confirmed r : Reading) (drift : Half) : Bool :=
  decide (r.unit = confirmed.unit) && decide (confirmed.value ≤ r.value) &&
    decide ((r.value - confirmed.value).toNat ≤ drift.toNat)

/-- R80: a burst of a READ meter that is not a duplicate. -/
def judgeRepeat (b : Burst) (i : Nat) (c : Confirmed) (flags : Word) (s : State) : State :=
  let index : Half := BitVec.ofNat 16 i
  let t := modMeter i (fun x => { x with lastCounter := some b.counter }) s
  if isRepeat c.reading b.reading s.route.active.drift then
    finalVerdict b vRepeat flags index (modMeter i (fun x => { x with repeats := satIncByte x.repeats }) t)
  else finalVerdict b vAccepted (flags ||| tamperFlag) index (addCauses i cDrift t)

/-- R75: the burst is a duplicate for entry `m`. -/
def isDuplicate (m : Meter) (counter : Half) : Bool :=
  m.window.any (fun c => decide (c.counter = counter)) ||
    (decide (m.state = .read) && decide (m.lastCounter = some counter))

/-- R74: the meter at index `i` has a Poll List entry in LISTENING. -/
def isListening (s : State) (i : Nat) : Bool :=
  match pollOf s i with
  | some ⟨_, _, _, .listening _⟩ => true
  | _ => false

/-- R74: LATE: the entry is in HOLDOFF, or the meter is UNREACHABLE. -/
def isLate (s : State) (i : Nat) (m : Meter) : Bool :=
  (match pollOf s i with
    | some ⟨_, _, _, .holdoff _⟩ => true
    | _ => false) || decide (m.state = .unreachable)

/-- R74: a matched poll response confirms the meter alone. -/
def matchResponse (b : Burst) (i : Nat) (m : Meter) (flags : Word) (s : State) : State :=
  let found := confirmCauses m.img b.reading s.route.active
  let t := modMeter i (fun x => { x with lastCounter := some b.counter }) s
  finalVerdict b vPollMatch (flags ||| tamperIf found) (BitVec.ofNat 16 i)
    (confirm i ⟨b.reading, b.stamp, freshFix b.fix b.stamp s.route.params.staleLimit⟩ true found t)

/-- R75, R76, R80: an accepted burst that is not a matched response. -/
def judgeOrdinary (b : Burst) (i : Nat) (m : Meter) (flags : Word) (s : State) : State :=
  if isDuplicate m b.counter then finalVerdict b vDuplicate flags (BitVec.ofNat 16 i) s
  else if m.state = .read then
    match m.confirmed with
    | some c => judgeRepeat b i c flags s
    | none => s
  else castVote b i m flags s

/-- R72 to R80: a burst accepted for entry `m` at index `i`. -/
def acceptBurst (b : Burst) (i : Nat) (m : Meter) (s : State) : State :=
  let found := burstCauses m.img b.typeCode b.meterFlags b.counter
  let t := addCauses i found (modMeter i (heardMeter b) s)
  let flags :=
    burstFlags b.overrun ||| (if b.typeCode = m.img.typeCode then 0 else clashFlag) ||| tamperIf found
  if b.kind = 2#8 then
    if isListening s i then matchResponse b i m flags t
    else judgeOrdinary b i m (flags ||| unaskedFlag ||| (if isLate s i m then lateFlag else 0)) t
  else judgeOrdinary b i m flags t

/-- R71: the meter check. -/
def judgeMeter (b : Burst) (s : State) : State :=
  match findMeter s.dir b.meter with
  | some i =>
    match s.dir[i]? with
    | some m => acceptBurst b i m s
    | none => s
  | none =>
    refuseBurst b vUnknownMeter
      { s with
        cap :=
          { s.cap with
            unknownMeters := satInc s.cap.unknownMeters, routeUnknown := satInc s.cap.routeUnknown } }

/-- R68 to R71: the acceptance checks of a burst judged in OPEN; it adds 1 to the bursts judged (R82). -/
def judgeOpen (b : Burst) (s : State) : State :=
  let t := { s with cap := { s.cap with routeJudged := satInc s.cap.routeJudged } }
  if !b.crcGood then refuseBurst b vBadCrc t
  else if !b.frameGood then refuseBurst b vBadFrame t
  else if !signalGood b.rssi s.route.active.floor then refuseBurst b vWeak t
  else judgeMeter b t

/-- R46, R61: the slot mark with which `b` joins the Deferred List: set (R46).  Where R61 has cleared it in the Judge Queue
and says that no final verdict is written, the next free choice decides between the two rules (log entry 25). -/
def deferredMark (b : Burst) (s : State) : Bool := b.mark || s.cutMarks.headD true

/-- R46: a burst taken during LOADING is set aside, or not judged when the list is full. -/
def deferBurst (b : Burst) (s : State) : State :=
  if s.cap.deferred.length < Config.deferredPlaces then
    let t :=
      { s with
        cap := { s.cap with deferred := s.cap.deferred ++ [{ b with mark := deferredMark b s }] }
        cutMarks := if b.mark then s.cutMarks else s.cutMarks.tail }
    giveData .captureUnit (captureAddr s.path.areaSel b.slot 15)
      (verdictWord vDeferred (burstFlags b.overrun) Config.noIndex) t
  else
    refuseBurst b vNotJudged { s with cap := { s.cap with unjudged := satInc s.cap.unjudged } }

/-- R66, R67: a burst is judged in the present route state. -/
def judge (b : Burst) (s : State) : State :=
  match s.route.state with
  | .noRoute => refuseBurst b vNoRoute s
  | .closing => refuseBurst b vRouteClosing s
  | .opened => judgeOpen b s
  | .loading => deferBurst b s

/-- R66: the previous judgement has ended, its verdict write having joined. -/
def judgeIdle (s : State) : Bool := !(s.ins.isWaiting .captureUnit)

/-- R66: the oldest burst of the Judge Queue can be taken. -/
def canJudge (s : State) : Bool :=
  judgeIdle s && !s.cap.judgeQ.isEmpty && (decide (s.route.state = .loading) || s.cap.deferred.isEmpty)

/-- R66: the oldest burst is taken and judged. -/
def judgeHead (s : State) : State :=
  match s.cap.judgeQ with
  | [] => s
  | b :: q => judge b { s with cap := { s.cap with judgeQ := q } }

/-- JUDGE_BURST (R66). -/
def execJudgeBurst (s : State) : Host.Outcome State Fault Refusal := event (canJudge s) judgeHead s

/-- R48: the next held burst can be judged: the load has ended.  Bursts still held when a further load has entered
LOADING wait for its end, ahead of those it sets aside: the model's choice (log entry 32). -/
def canJudgeDeferred (s : State) : Bool :=
  judgeIdle s && !s.cap.deferred.isEmpty && decide (s.route.state ≠ .loading)

/-- R48: the held burst at the head leaves the list and is judged. -/
def judgeDeferred (s : State) : State :=
  match s.cap.deferred with
  | [] => s
  | b :: q => judge b { s with cap := { s.cap with deferred := q } }

/-- DEFERRED_JUDGE (R48). -/
def execDeferredJudge (s : State) : Host.Outcome State Fault Refusal := event (canJudgeDeferred s) judgeDeferred s

/-- R49: a load has failed: each held burst leaves the list with NO_ROUTE, one held since an earlier load too
(log entry 32). -/
def flushDeferred (s : State) : State :=
  s.cap.deferred.foldl (fun t b => refuseBurst b vNoRoute t) { s with cap := { s.cap with deferred := [] } }

/-- R65: an upstream write to word 15 has cancelled the queued verdict `data` of slot `k`. -/
def cancelVerdict (k : Nat) (data : Word) (s : State) : State :=
  if isFinalVerdict data then modCap k (fun c => { c with unread := false }) s else s

/-- R64: a read of word 15 of slot `k` was served with `data`. -/
def verdictRead (k : Nat) (data : Word) (s : State) : State :=
  if isFinalVerdict data then modCap k (fun c => { c with unread := false }) s else s

end Sys2Proof.Machine
end

