-- ==== Sys2Proof/Machine/Load.lean ====
section
/-! DEFINITION. ROUTE_OPEN and the route load (section 3.2): the route number, the header, the entries, success and failure. -/
namespace Sys2Proof.Machine

/-- R44: the four results of a load that ends without success. -/
def loadResults (at_ detail : Word) (route : Half) (held : Nat) : List Word := [at_, detail, place route 0, num held 0]

/-- R37: ROUTE_OPEN after the scan check. -/
def routeOpenWork (s : State) : State :=
  match s.route.state with
  | .noRoute =>
    if s.faultLatched then respond stFaulted [] s
    else { s with route := { s.route with load := some .number } }
  | .opened => respond stWrongState [] s
  | .closing => respond stWrongState [] s
  | .loading => respond stWrongState [] s

/-- R39, R82, R106, R108, R157: the load enters LOADING with route number `n`. -/
def enterLoading (n : Half) (s : State) : State :=
  { s with
    route :=
      { s.route with state := .loading, number := n, missed := 0, load := some (.header n [] crc32Init) }
    sm := { s.sm with roster := s.sm.roster ++ [⟨n, 0, true⟩] }
    cap := { s.cap with routeJudged := 0, routeUnknown := 0, routeOverruns := 0 }
    poll := { s.poll with sent := 0, answered := 0 }
    tamper := { s.tamper with records := 0 } }

/-- R38: ROUTE_OPEN ends at the roster check. -/
def refuseOpen (status : Byte) (n : Half) (s : State) : State :=
  respond status (loadResults Config.allOnes 0 n 0) { s with route := { s.route with load := none } }

/-- R38: the route number has been read. -/
def takeNumber (d : Disturb) (s : State) : State :=
  let n : Half := bits (readResult s d).1 0 16
  let t := completeRead d s
  if (readResult s d).2 then refuseOpen stStoreError n t
  else if n = 0 then refuseOpen stImageRange n t
  else if s.sm.roster.any fun e => decide (e.route = n) then refuseOpen stDupRoute n t
  else if Config.rosterPlaces ≤ s.sm.roster.length then refuseOpen stRosterFull n t
  else enterLoading n t

/-- ROUTE_NUMBER_READ (R38). -/
def execRouteNumberRead (d : Disturb) (s : State) : Host.Outcome State Fault Refusal :=
  event (readReady s && decide (s.sm.scan = .done) && decide (s.route.load = some .number)) (takeNumber d) s

/-- R44, R49: the load is undone at one event, with status `status`, place `at_` and detail. -/
def failLoad (status : Byte) (at_ detail : Word) (route : Half) (s : State) : State :=
  let t :=
    { s with
      dir := []
      sm := { s.sm with roster := s.sm.roster.filter fun e => !e.isOpen }
      route := { s.route with state := .noRoute, number := 0, load := none } }
  respond status (loadResults at_ detail route s.cap.deferred.length) (flushDeferred t)

/-- The route parameters of a header (chapter 12.5). -/
def headerParams (h : List Word) : RouteParams :=
  let w (n : Nat) : Word := h.getD n 0
  ⟨bits (w 2) 0 16, bits (w 2) 16 16, bits (w 3) 0 8, bits (w 3) 8 8, bits (w 4) 0 16, bits (w 4) 16 16,
    bits (w 5) 0 16, bits (w 5) 16 16⟩

/-- The threshold set of a header (chapter 12.5). -/
def headerThresholds (h : List Word) : Thresholds :=
  ⟨bits (h.getD 6 0) 0 16, h.getD 7 0, h.getD 8 0, bits (h.getD 6 0) 16 16⟩

def between (lo x hi : Nat) : Bool := decide (lo ≤ x) && decide (x ≤ hi)

/-- R89: the range of an RSSI floor. -/
def floorInRange (f : Int) : Bool := decide (-140 ≤ f) && decide (f ≤ -20)

/-- R40: the accepted values of the header's fields. -/
def headerGood (h : List Word) (route : Half) : Bool :=
  let p := headerParams h
  h.getD 0 0 == Config.magic && bits (h.getD 1 0) 0 16 == route && between 1 p.meterCount.toNat 4096 &&
    between 1 p.segCount.toNat 256 && between 1 p.votesNeeded.toNat 3 && between 0 p.pollRetries.toNat 3 &&
    between 20 p.listenBase.toNat 2000 && between 0 p.listenHop.toNat 1000 && between 100 p.holdoff.toNat 60000 &&
    between 100 p.staleLimit.toNat 60000 && floorInRange (headerThresholds h).floor.toInt

/-- R40: header word `words.length` has been read. -/
def takeHeader (d : Disturb) (route : Half) (words : List Word) (crc : Word) (s : State) : State :=
  let w := (readResult s d).1
  let t := completeRead d s
  let ws := words ++ [w]
  if (readResult s d).2 then failLoad stStoreError Config.allOnes 0 route t
  else if words.length < 15 then
    { t with route := { t.route with load := some (.header route ws (crc32Word crc w)) } }
  else if headerGood ws route then { t with route := { t.route with load := some (.entry route ws 0 [] crc) } }
  else failLoad stImageRange Config.allOnes 0 route t

/-- The load reads the header. -/
def loadInHeader (s : State) : Bool :=
  match s.route.load with
  | some (.header _ _ _) => true
  | _ => false

/-- R40: the next header word is taken. -/
def headerStep (d : Disturb) (s : State) : State :=
  match s.route.load with
  | some (.header route words crc) => takeHeader d route words crc s
  | _ => s

/-- HEADER_READ (R40). -/
def execHeaderRead (d : Disturb) (s : State) : Host.Outcome State Fault Refusal :=
  event (readReady s && decide (s.sm.scan = .done) && loadInHeader s) (headerStep d) s

/-- R41, chapter 12.5: the stored path of an entry, `none` when its hop count is none of 0, 1, 2 and NONE. -/
def storedPath (ws : List Word) : Option (Option RelayPath) :=
  let hops : Byte := bits (ws.getD 1 0) 16 8
  if hops = 0xFF#8 then some none
  else if hops.toNat ≤ 2 then some (some (relayPath hops (ws.getD 6 0) (ws.getD 7 0)))
  else none

/-- R50: the image fields of an entry. -/
def entryImage (ws : List Word) (stored : Option RelayPath) : MeterImage :=
  let w (n : Nat) : Word := ws.getD n 0
  { id := w 0, typeCode := bits (w 1) 0 8, segment := (bits (w 2) 0 16).toNat, mustConsume := (w 1).getLsbD 8,
    hasCounter := (w 1).getLsbD 9, stored := stored, refReading := ⟨(bits (w 4) 0 16 ++ w 3 : BitVec 48), bits (w 4) 16 8⟩,
    refCounter := bits (w 2) 16 16, maxDelta := w 5 }

/-- R51: an entry as it is added. -/
def newMeter (img : MeterImage) : Meter :=
  { img := img, state := .expected, window := [], confirmed := none, votes := 0, repeats := 0, best := none,
    lastCounter := none, flags := 0, learned := none, attempts := 0, causes := 0, written := 0, pendingNote := false,
    ackPending := false, requested := false, first := none }

/-- R84: the segment table of a new route. -/
def newSegments (count : Nat) (dir : List Meter) : List Segment :=
  (List.range count).map fun g => ⟨.waiting, dir.countP fun m => decide (m.img.segment = g)⟩

/-- R43: the load succeeds. -/
def succeedLoad (route : Half) (h : List Word) (s : State) : State :=
  let p := headerParams h
  let th := headerThresholds h
  respond stOk [place p.meterCount 0, place p.segCount 0, place route 0, num s.cap.deferred.length 0]
    { s with
      route :=
        { s.route with
          state := .opened, params := p, active := th, staged := th, segs := newSegments p.segCount.toNat s.dir
          activeSeg := none, load := none } }

/-- R42: the last entry has been added: the image check code is compared. -/
def closeLoad (route : Half) (h : List Word) (crc : Word) (s : State) : State :=
  if crc32Final crc = h.getD 15 0 then succeedLoad route h s
  else failLoad stImageCrc Config.allOnes (crc32Final crc) route s

/-- R41: the eight words of entry `i` have been read: the checks in their order, and the entry is added. -/
def checkEntry (route : Half) (h : List Word) (i : Nat) (ws : List Word) (crc : Word) (s : State) : State :=
  let p := headerParams h
  if p.segCount.toNat ≤ (bits (ws.getD 2 0) 0 16).toNat then failLoad stImageRange (num i 0) 0 route s
  else
    match storedPath ws with
    | none => failLoad stImageRange (num i 0) 0 route s
    | some stored =>
      match findMeter s.dir (ws.getD 0 0) with
      | some j => failLoad stImageDup (num i 0) (num j 0) route s
      | none =>
        let t := { s with dir := s.dir ++ [newMeter (entryImage ws stored)] }
        if i + 1 < p.meterCount.toNat then
          { t with route := { t.route with load := some (.entry route h (i + 1) [] crc) } }
        else closeLoad route h crc t

/-- R41: word `words.length` of entry `i` has been read. -/
def takeEntry (d : Disturb) (route : Half) (h : List Word) (i : Nat) (words : List Word) (crc : Word) (s : State) : State :=
  let w := (readResult s d).1
  let t := completeRead d s
  let ws := words ++ [w]
  if (readResult s d).2 then failLoad stStoreError (num i 0) 0 route t
  else if words.length < 7 then
    { t with route := { t.route with load := some (.entry route h i ws (crc32Word crc w)) } }
  else checkEntry route h i ws (crc32Word crc w) t

/-- The load reads the entries. -/
def loadInEntries (s : State) : Bool :=
  match s.route.load with
  | some (.entry _ _ _ _ _) => true
  | _ => false

/-- R41: the next entry word is taken. -/
def entryStep (d : Disturb) (s : State) : State :=
  match s.route.load with
  | some (.entry route h i words crc) => takeEntry d route h i words crc s
  | _ => s

/-- ENTRY_READ (R41). -/
def execEntryRead (d : Disturb) (s : State) : Host.Outcome State Fault Refusal :=
  event (readReady s && decide (s.sm.scan = .done) && loadInEntries s) (entryStep d) s

end Sys2Proof.Machine
end

