-- ==== Sys2Proof/Machine/Route.lean ====
section
/-! DEFINITION. The Route Unit's commands on an open route: segments (R87, R88), thresholds (R90, R91), POLL_NOW (R94),
METER_QUERY (R55) and ROUTE_CLOSE (R154 to R159). -/
namespace Sys2Proof.Machine

/-- R90: a threshold's RSSI floor sign-extended to a response word (R198). -/
def floorWord (f : Half) : Word := f.signExtend 32

/-- R87: the segment left in step 1, or none. -/
def leftSegWord (s : State) : Word :=
  match s.route.activeSeg with
  | some g => num g 0
  | none => Config.allOnes

/-- R87: the state the left segment took, or none. -/
def leftStateWord (s t : State) : Word :=
  match s.route.activeSeg with
  | some g =>
    match t.route.segs[g]? with
    | some x => num (segStateCode x.state) 0
    | none => Config.allOnes
  | none => Config.allOnes

/-- The state code of segment `g` (R87, word 5). -/
def segCodeWord (s : State) (g : Nat) : Word :=
  match s.route.segs[g]? with
  | some x => num (segStateCode x.state) 0
  | none => 0

/-- R87, steps 2 and 3: segment `n` becomes ACTIVE and the staged thresholds are taken. -/
def enterSegment (n : Nat) (s : State) : State :=
  { s with
    route :=
      { s.route with
        segs := s.route.segs.modify n (fun x => { x with state := .active }), activeSeg := some n, active := s.route.staged } }

/-- R87: SEGMENT_ENTER after the scan check. -/
def segmentEnterWork (n : Word) (s : State) : State :=
  if s.route.state ≠ .opened then respond stWrongState [] s
  else if s.route.params.segCount.toNat ≤ n.toNat then respond stBadParam [] s
  else
    let t := leaveActive s
    let u := enterSegment n.toNat t
    respond stOk
      [n, leftSegWord s, num (walkCount s) 0, leftStateWord s t, segCodeWord t n.toNat, num u.poll.list.length 0] u

/-- R88: SEGMENT_LEAVE after the scan check. -/
def segmentLeaveWork (s : State) : State :=
  if s.route.state ≠ .opened then respond stWrongState [] s
  else if s.route.activeSeg = none then respond stWrongState [] s
  else
    let t := leaveActive s
    respond stOk [leftSegWord s, num (walkCount s) 0, leftStateWord s t, num t.poll.list.length 0] t

/-- R90: THRESHOLD_STAGE after the scan check. -/
def thresholdStageWork (floor excess low drift : Word) (s : State) : State :=
  if s.route.state ≠ .opened then respond stWrongState [] s
  else if !floorInRange floor.toInt || decide (65535 < drift.toNat) then respond stBadParam [] s
  else
    let th : Thresholds := ⟨floor.setWidth 16, excess, low, drift.setWidth 16⟩
    respond stOk [floorWord th.floor, th.excess, th.low, place th.drift 0] { s with route := { s.route with staged := th } }

/-- R91: `x` held to the range from `lo` to `hi`. -/
def clamp (lo hi x : Int) : Int := if x < lo then lo else if hi < x then hi else x

/-- R91: the staged set with the selected field moved by `step`, the field's new value as a response word, and whether
the sum lay beyond its range. -/
def nudged (th : Thresholds) (sel : Nat) (step : Int) : Thresholds × Word × Bool :=
  if sel = 0 then
    let sum := th.floor.toInt + step
    let v : Half := BitVec.ofInt 16 (clamp (-140) (-20) sum)
    ({ th with floor := v }, floorWord v, decide (clamp (-140) (-20) sum ≠ sum))
  else if sel = 1 then
    let sum := (th.excess.toNat : Int) + step
    let v : Word := BitVec.ofInt 32 (clamp 0 0xFFFFFFFF sum)
    ({ th with excess := v }, v, decide (clamp 0 0xFFFFFFFF sum ≠ sum))
  else if sel = 2 then
    let sum := (th.low.toNat : Int) + step
    let v : Word := BitVec.ofInt 32 (clamp 0 0xFFFFFFFF sum)
    ({ th with low := v }, v, decide (clamp 0 0xFFFFFFFF sum ≠ sum))
  else
    let sum := (th.drift.toNat : Int) + step
    let v : Half := BitVec.ofInt 16 (clamp 0 65535 sum)
    ({ th with drift := v }, place v 0, decide (clamp 0 65535 sum ≠ sum))

/-- R91: THRESHOLD_NUDGE after the scan check. -/
def thresholdNudgeWork (sel step : Word) (s : State) : State :=
  if s.route.state ≠ .opened then respond stWrongState [] s
  else if 3 < sel.toNat then respond stBadParam [] s
  else
    let r := nudged s.route.staged sel.toNat step.toInt
    respond stOk [r.2.1, flag r.2.2 0] { s with route := { s.route with staged := r.1 } }

/-- R94: POLL_NOW after the scan check. -/
def pollNowWork (id : Word) (s : State) : State :=
  if s.route.state ≠ .opened then respond stWrongState [] s
  else
    match findMeter s.dir id with
    | none => respond stBadParam [] s
    | some i =>
      match s.dir[i]? with
      | none => respond stBadParam [] s
      | some m =>
        let code := num (meterStateCode m.state) 0
        if m.state = .polling ∨ m.state = .read then respond stWrongState [num i 0, 0, code] s
        else
          let t := addPoll i s
          respond stOk [num i 0, num t.poll.list.length 0, code] t

/-- R55: the seven result words of METER_QUERY for entry `m` at index `i`. -/
def queryResults (s : State) (i : Nat) (m : Meter) : List Word :=
  let reading : Reading :=
    match m.confirmed with
    | some c => c.reading
    | none => ⟨0, 0⟩
  let sub : Nat :=
    match pollOf s i with
    | some e => pollSubCode e.sub
    | none => 0
  let hops : Byte :=
    match m.learned with
    | some l => l.path.hops
    | none => 0xFF#8
  let stamp : Word :=
    match m.confirmed with
    | some c => c.stamp
    | none => 0
  [num i 0 ||| num (meterStateCode m.state) 16,
    place m.votes 0 ||| num m.window.length 8 ||| place m.repeats 16 ||| place m.flags 24,
    reading.value.extractLsb' 0 32,
    place (reading.value.extractLsb' 32 16) 0 ||| place reading.unit 16,
    place m.causes 0 ||| place m.written 8 ||| place (m.best.getD 0) 16 ||| place hops 24,
    place m.attempts 0 ||| num sub 8 ||| flag m.best.isSome 16 ||| flag m.first.isSome 17 ||| flag m.pendingNote 18 |||
      flag m.ackPending 19,
    stamp]

/-- R55: METER_QUERY after the scan check. -/
def meterQueryWork (id : Word) (s : State) : State :=
  if !s.routeShown then respond stWrongState [] s
  else
    match findMeter s.dir id with
    | none => respond stBadParam [] s
    | some i =>
      match s.dir[i]? with
      | none => respond stBadParam [] s
      | some m => respond stOk (queryResults s i m) s

/-! ### ROUTE_CLOSE -/

/-- R155: the state of a meter whose poll the close removes. -/
def closedPollState (m : Meter) : MeterState := if m.window.isEmpty then .expected else .heard

/-- R155, step 2: one Poll List entry is removed by the close. -/
def cutPoll (s : State) (e : PollEntry) : State :=
  match s.dir[e.index]? with
  | some m => setMeterState e.index (closedPollState m) (removePoll e.index s)
  | none => removePoll e.index s

/-- R155, step 2: every Poll List entry is removed. -/
def cutPolls (s : State) : State := s.poll.list.foldl cutPoll s

/-- R157: the reason of the MISS request of entry `m`; `cut` when step 2 removed its poll. -/
def missReason (m : Meter) (cut : Bool) : MissReason :=
  if m.state = .unreachable then .pollFailed
  else if cut && m.attempts != 0 then .pollCancelled
  else if !m.window.isEmpty then .unconfirmed
  else .notHeard

/-- R157: the MISS requests of step 3, in index order; `cut` are the entries whose polls step 2 removed. -/
def missRequests (dir : List Meter) (cut : List Nat) : List (Nat × MissReason) :=
  (List.range dir.length).filterMap fun i =>
    match dir[i]? with
    | some m => if m.requested then none else some (i, missReason m (cut.contains i))
    | none => none

/-- R157, R158: steps 3, 4 and 5. -/
def requestMisses (misses : List (Nat × MissReason)) (s : State) : State :=
  { s with
    sm := { s.sm with backlog := s.sm.backlog ++ misses.map (fun r => Request.miss r.1 r.2) ++ [.summary] }
    dir := s.dir.map fun m => { m with requested := true }
    route := { s.route with missed := satHalf misses.length, state := .closing } }

/-- R159: the requests with a reason. -/
def countReason (misses : List (Nat × MissReason)) (r : MissReason) : Nat := misses.countP fun m => decide (m.2 = r)

/-- R154: ROUTE_CLOSE after the scan check: the close event. -/
def routeCloseWork (s : State) : State :=
  if s.route.state ≠ .opened then respond stWrongState [] s
  else
    let s1 := leaveActive s
    let s2 := cutPolls s1
    let misses := missRequests s2.dir (s1.poll.list.map fun e => e.index)
    let t := requestMisses misses s2
    respond stOk
      [num t.sm.backlog.length 0,
        num (countReason misses .notHeard) 0 ||| num (countReason misses .unconfirmed) 16,
        num (countReason misses .pollCancelled) 0 ||| num (countReason misses .pollFailed) 16,
        num s1.poll.list.length 0, leftSegWord s, num t.metersRead 0 ||| num t.metersUnreachable 16,
        place t.route.number 0] t

end Sys2Proof.Machine
end

