-- ==== Sys2Proof/Machine/Scanning.lean ====
section
/-! DEFINITION. The start-up scan (section 7.9) and its rebuild of the Tamper List (R127). -/
namespace Sys2Proof.Machine

/-- R132: a header is valid with words 1 and 2; its kind. -/
def validHeader (w0 w1 w2 : Word) : Option Kind :=
  if bits w0 0 8 = 0xA5#8 ∧ bits w0 18 14 = 0#14 ∧ w1 ≠ 0 ∧ bits w2 0 16 ≠ 0#16 then kindOfCode (bits w0 8 8) else none

/-- R149: the higher of the highest sequence number seen and `seq`. -/
def higherSeq (high : Option Word) (seq : Word) : Word :=
  match high with
  | none => seq
  | some h => if h < seq then seq else h

/-- The scan's finding for slot `k`; FREE is not listed. -/
def setFinding (k : Nat) (r : SlotRow) (s : State) : State :=
  { s with sm := { s.sm with findings := insertAt s.sm.findings k r } }

/-- R150: the working roster after a STORED finding of route `r`, when it has a place for it. -/
def admitRoute (r : Half) (ro : List RosterEntry) : Option (List RosterEntry) :=
  if ro.any fun e => decide (e.route = r) then some (rosterUp r ro)
  else if ro.length < Config.rosterPlaces then some (ro ++ [⟨r, 1, false⟩])
  else none

/-- R149, R150: a slot whose header is valid. -/
def foundRecord (k : Nat) (kind : Kind) (w0 w1 w2 : Word) (s : State) : State :=
  let route : Half := bits w2 0 16
  let t := { s with sm := { s.sm with highest := some (higherSeq s.sm.highest w1) } }
  match admitRoute route s.sm.workRoster with
  | some ro =>
    setFinding k (.record ⟨.stored, kind, w1, route, w0.getLsbD 16, w0.getLsbD 17⟩)
      { t with sm := { t.sm with workRoster := ro } }
  | none => setFinding k .quarantined t

/-- R149: the finding for slot `k` from its words 0, 1 and 2. -/
def decideSlot (k : Nat) (w0 w1 w2 : Word) (s : State) : State :=
  if w0 = 0 then s
  else
    match validHeader w0 w1 w2 with
    | some kind => foundRecord k kind w0 w1 w2 s
    | none => setFinding k .quarantined s

/-- R141: sequence order: by sequence number, then by slot index. -/
def seqBefore (a b : Nat × Word) : Bool := decide (a.2 < b.2) || (decide (a.2 = b.2) && decide (a.1 < b.1))

def insertSeq (x : Nat × Word) : List (Nat × Word) → List (Nat × Word)
  | [] => [x]
  | y :: ys => if seqBefore x y then x :: y :: ys else y :: insertSeq x ys

/-- R141: slots with their sequence numbers, in sequence order. -/
def sortSeq (xs : List (Nat × Word)) : List (Nat × Word) := xs.foldl (fun ys x => insertSeq x ys) []

/-- The slots whose row is a record that `p` accepts, with their sequence numbers. -/
def slotsWhere (p : RecRow → Bool) (rows : List (Nat × SlotRow)) : List (Nat × Word) :=
  rows.filterMap fun e =>
    match e.2 with
    | .record r => if p r then some (e.1, r.seq) else none
    | .quarantined => none

/-- R127: the locked, unacknowledged records in sequence order. -/
def rebuildList (findings : List (Nat × SlotRow)) : List Nat :=
  (sortSeq (slotsWhere (fun r => r.locked && !r.acked) findings)).map fun e => e.1

/-- R152, step 3, R143: the end of the scan. -/
def endScan (s : State) : State :=
  let t :=
    { s with
      sm :=
        { s.sm with
          slots := s.sm.findings, roster := s.sm.workRoster, scan := .done, findings := [], workRoster := [],
          highest := none } }
  if t.freeCount ≤ Config.storeLow then raise .storeLow t else t

/-- R127, R152: the rebuild goes on with `rest`, or the scan ends. -/
def rebuildFrom (rest : List Nat) (s : State) : State :=
  if rest.isEmpty then endScan s else { s with sm := { s.sm with scan := .rebuild rest none } }

/-- R152, step 1: where sequence numbering resumes. -/
def resumeSeq (high : Option Word) : Word :=
  match high with
  | none => 1
  | some h => h + 1

/-- R152: slot 8191 has been decided. -/
def afterSlots (s : State) : State :=
  rebuildFrom (rebuildList s.sm.findings) { s with sm := { s.sm with nextSeq := resumeSeq s.sm.highest } }

/-- R149: the scan goes on after slot `k`. -/
def afterSlot (k : Nat) (s : State) : State :=
  if k + 1 < Config.storeSlots then { s with sm := { s.sm with scan := .slots (k + 1) [] } } else afterSlots s

/-- R149, R151: word `words.length` of slot `k` has been read. -/
def takeScanWord (d : Disturb) (k : Nat) (words : List Word) (s : State) : State :=
  let w := (readResult s d).1
  let t := completeRead d s
  if (readResult s d).2 then afterSlot k (setFinding k .quarantined t)
  else
    match words with
    | [w0, w1] => afterSlot k (decideSlot k w0 w1 w t)
    | _ => { t with sm := { t.sm with scan := .slots k (words ++ [w]) } }

/-- The scan reads slots. -/
def scanInSlots (s : State) : Bool :=
  match s.sm.scan with
  | .slots _ _ => true
  | _ => false

/-- R149: the scan's next word is taken. -/
def scanStep (d : Disturb) (s : State) : State :=
  match s.sm.scan with
  | .slots k words => takeScanWord d k words s
  | _ => s

/-- SCAN_READ (R149). -/
def execScanRead (d : Disturb) (s : State) : Host.Outcome State Fault Refusal :=
  event (readReady s && scanInSlots s) (scanStep d) s

/-- R127: the route number the scan found in slot `k`. -/
def findingRoute (s : State) (k : Nat) : Half :=
  match lookup s.sm.findings k with
  | some (.record r) => r.route
  | _ => 0

/-- R127, R152: a rebuild read of slot `k` was in error. -/
def quarantineFinding (k : Nat) (s : State) : State :=
  setFinding k .quarantined
    { s with sm := { s.sm with workRoster := rosterDown (findingRoute s k) s.sm.workRoster } }

/-- R127: word 3 (when `meter` is none) or word 5 of slot `k` has been read. -/
def takeRebuildWord (d : Disturb) (k : Nat) (rest : List Nat) (meter : Option Word) (s : State) : State :=
  let w := (readResult s d).1
  let t := completeRead d s
  if (readResult s d).2 then rebuildFrom rest (quarantineFinding k t)
  else
    match meter with
    | none => { t with sm := { t.sm with scan := .rebuild (k :: rest) (some w) } }
    | some id => rebuildFrom rest (createTamper ⟨findingRoute t k, id, bits w 24 8, some k⟩ t)

/-- The scan rebuilds the Tamper List. -/
def scanInRebuild (s : State) : Bool :=
  match s.sm.scan with
  | .rebuild (_ :: _) _ => true
  | _ => false

/-- R127: the rebuild's next word is taken. -/
def rebuildStep (d : Disturb) (s : State) : State :=
  match s.sm.scan with
  | .rebuild (k :: rest) meter => takeRebuildWord d k rest meter s
  | _ => s

/-- SCAN_REBUILD_READ (R127). -/
def execScanRebuildRead (d : Disturb) (s : State) : Host.Outcome State Fault Refusal :=
  event (readReady s && scanInRebuild s) (rebuildStep d) s

end Sys2Proof.Machine
end

