-- ==== Sys2Proof/Machine/Uploads.lean ====
section
/-! DEFINITION. The Upload Unit (chapter 9): selection, manifest build, fetch tracking, acknowledgement and abandonment. -/
namespace Sys2Proof.Machine

/-- R168: a manifest header write: words 1 to 3 first, word 0 last. -/
def giveManifest (id : Half) (state count : Nat) (digest : Word) (s : State) : State :=
  let sel := s.path.areaSel
  giveData .uploadUnit (manifestAddr sel 0) (place id 0 ||| num state 16)
    (giveData .uploadUnit (manifestAddr sel 3) 0
      (giveData .uploadUnit (manifestAddr sel 2) digest
        (giveData .uploadUnit (manifestAddr sel 1) (num count 0) s)))

/-- R130: every slot of the batch list moves to `st`. -/
def moveSlots (items : List BatchItem) (st : RecState) (s : State) : State :=
  items.foldl (fun t it => modRow it.slot (fun r => { r with state := st }) t) s

/-- R168: the first `n` STORED records in sequence order. -/
def selectRecords (n : Nat) (s : State) : List BatchItem :=
  ((sortSeq (slotsWhere (fun r => decide (r.state = .stored)) s.sm.slots)).take n).map fun e => ⟨e.1, e.2, 0, 0⟩

/-- R166: the batch id after `id`; never 0. -/
def nextBatchId (id : Half) : Half := if id = 0xFFFF#16 then 1 else id + 1

/-- R168: the acceptance of UPLOAD_BEGIN. -/
def acceptBegin (max : Nat) (s : State) : State :=
  let items := selectRecords max s
  let t := moveSlots items .inBatch s
  giveManifest s.up.nextId manifestBuilding items.length 0
    { t with
      up :=
        { batch := some ⟨.building, s.up.nextId, items, 0, 0, 1, crc32Init, t.storedCount⟩
          nextId := nextBatchId s.up.nextId, lastId := s.up.nextId } }

/-- R167: UPLOAD_BEGIN after the scan check. -/
def uploadBeginWork (max : Word) (s : State) : State :=
  if s.up.batch.isSome then respond stWrongState [] s
  else if s.faultLatched then respond stFaulted [] s
  else if max = 0 ∨ Config.batchLimit < max.toNat then respond stBadParam [] s
  else if s.storedCount = 0 then respond stNothing [] s
  else acceptBegin max.toNat s

/-- R29: an Upload Unit command ends behind the writes it has given. -/
def respondUpload (status : Byte) (results : List Word) (s : State) : State :=
  respondBehind .uploadUnit ⟨status, results, false⟩ s

/-- R170: the digest over the manifest entries. -/
def digestOf (items : List BatchItem) : Word := crc32 (items.flatMap fun it => [num it.slot 0, it.crc])

/-- R173, R174: every fetch mask is full. -/
def allFetched (items : List BatchItem) : Bool := items.all fun it => decide (it.mask = 0xFFFF#16)

/-- The code a manifest header shows for a batch state (chapter 12.7). -/
def manifestCode : BatchState → Nat
  | .building => manifestBuilding
  | .opened => manifestOpen
  | .fetched => manifestFetched

/-- R170: the sequence number of an item, 0 when there is none. -/
def seqOf : Option BatchItem → Word
  | some it => it.seq
  | none => 0

/-- R170: the build ends. -/
def endBuild (b : Batch) (items : List BatchItem) (s : State) : State :=
  let digest := digestOf items
  let st : BatchState := if allFetched items then .fetched else .opened
  let t := { s with up := { s.up with batch := some { b with state := st, items := items, digest := digest } } }
  respondUpload stOk
    [place b.id 0, num items.length 0, digest, seqOf items.head?, seqOf items.getLast?, num b.left 0]
    (giveManifest b.id (manifestCode st) items.length digest t)

/-- R172: a parity error ends the build. -/
def failBuild (b : Batch) (slot : Nat) (s : State) : State :=
  let t := moveSlots b.items .stored s
  respondUpload stStoreError [place b.id 0, num b.items.length 0, num b.place 0, num slot 0]
    (giveManifest b.id manifestAbandoned b.items.length 0 { t with up := { t.up with batch := none } })

/-- R169: the two writes of manifest entry `j`. -/
def giveEntry (j slot : Nat) (crc : Word) (s : State) : State :=
  giveData .uploadUnit (manifestEntryAddr s.path.areaSel j 1) crc
    (giveData .uploadUnit (manifestEntryAddr s.path.areaSel j 0) (num slot 0) s)

/-- R169: word `b.word` of the record of `it` has been read as `w`. -/
def buildWord (b : Batch) (it : BatchItem) (w : Word) (s : State) : State :=
  let crc := crc32Word b.crc w
  if b.word < 15 then { s with up := { s.up with batch := some { b with word := b.word + 1, crc := crc } } }
  else
    let value := crc32Final crc
    let items := b.items.modify b.place (fun x => { x with crc := value })
    let t := giveEntry b.place it.slot value s
    if b.place + 1 < items.length then
      { t with
        up := { t.up with batch := some { b with items := items, place := b.place + 1, word := 1, crc := crc32Init } } }
    else endBuild b items t

/-- R169, R172: the build's next word is taken. -/
def buildStep (d : Disturb) (s : State) : State :=
  match s.up.batch with
  | none => s
  | some b =>
    match b.items[b.place]? with
    | none => s
    | some it =>
      let t := completeRead d s
      if (readResult s d).2 then failBuild b it.slot t else buildWord b it (readResult s d).1 t

/-- R169: a build is under way. -/
def building (s : State) : Bool :=
  match s.up.batch with
  | some b => decide (b.state = .building)
  | none => false

/-- BUILD_READ (R169). -/
def execBuildRead (d : Disturb) (s : State) : Host.Outcome State Fault Refusal :=
  event (readReady s && decide (s.sm.scan = .done) && s.route.load.isNone && building s) (buildStep d) s

/-- R173: word `w` of slot `k` has been read out: its fetch bit is set. -/
def markFetched (k w : Nat) (items : List BatchItem) : List BatchItem :=
  items.map fun it => if it.slot = k then { it with mask := it.mask ||| (1#16 <<< w) } else it

/-- R173, R174: the notice of an upstream read of word `w` of slot `k`. -/
def fetchRead (k w : Nat) (s : State) : State :=
  match s.up.batch with
  | none => s
  | some b =>
    if s.slotState k = .inBatch then
      let items := markFetched k w b.items
      if b.state = .opened ∧ allFetched items = true then
        giveManifest b.id manifestFetched items.length b.digest
          { s with up := { s.up with batch := some { b with items := items, state := .fetched } } }
      else { s with up := { s.up with batch := some { b with items := items } } }
    else s

/-- R175: the batch id parameter names the batch. -/
def batchIdIs (b : Batch) (id : Word) : Bool := id == place b.id 0

/-- R176, steps 1 to 4: one slot is released. -/
def releaseSlot (s : State) (it : BatchItem) : State :=
  let route : Half :=
    match s.rowOf it.slot with
    | some r => r.route
    | none => 0
  giveData .uploadUnit (recordAddr s.path.areaSel it.slot 0) 0
    { s with
      sm := { s.sm with slots := eraseAt s.sm.slots it.slot, roster := rosterDown route s.sm.roster }
      tamper := { s.tamper with list := s.tamper.list.filter fun e => decide (e.slot ≠ some it.slot) } }

/-- R176, R178: the release event. -/
def releaseBatch (b : Batch) (s : State) : State :=
  let t := b.items.foldl releaseSlot s
  let u := giveManifest b.id manifestAcked b.items.length b.digest { t with up := { t.up with batch := none } }
  respondUpload stOk
    [place b.id 0, num b.items.length 0, num (s.tamper.list.length - u.tamper.list.length) 0,
      num (s.sm.roster.length - u.sm.roster.length) 0, num u.freeCount 0, num u.sm.backlog.length 0,
      num u.sm.roster.length 0] u

/-- R175: UPLOAD_ACK after the scan check. -/
def uploadAckWork (id digest : Word) (s : State) : State :=
  match s.up.batch with
  | none => respond stWrongState [] s
  | some b =>
    let refusal : List Word := [place b.id 0, num (batchStateCode b.state) 0]
    if !batchIdIs b id then respond stBadParam refusal s
    else if b.state ≠ .fetched then respond stNotFetched refusal s
    else if digest ≠ b.digest then respond stDigestMismatch refusal s
    else releaseBatch b s

/-- R179: UPLOAD_ABANDON after the scan check. -/
def uploadAbandonWork (id : Word) (s : State) : State :=
  match s.up.batch with
  | none => respond stWrongState [] s
  | some b =>
    if !batchIdIs b id then respond stBadParam [] s
    else
      let t := moveSlots b.items .stored s
      respondUpload stOk [place b.id 0, num b.items.length 0, num (batchStateCode b.state) 0]
        (giveManifest b.id manifestAbandoned b.items.length b.digest { t with up := { t.up with batch := none } })

end Sys2Proof.Machine
end

