-- ==== Sys2Proof/Machine/Timing.lean ====
section
/-! DEFINITION. The Route Clock (R56), the Event Unit's commands, sleep and WAKE (chapter 10), the fault logic (chapter 11),
one BCLK edge, and reset (R17). -/
namespace Sys2Proof.Machine

/-! ### Events (R188, R189) -/

/-- R188, R189: a mask has a bit above bit 8. -/
def maskTooWide (m : Word) : Bool := bits m 9 23 != 0

/-- R188: EVENT_ENABLE after the scan check. -/
def eventEnableWork (notify wake : Word) (s : State) : State :=
  if maskTooWide notify || maskTooWide wake then respond stBadParam [] s
  else
    respond stOk
      [notify, wake, place s.ev.marks 0, place s.ev.notify 0, place s.ev.wake 0]
      { s with ev := { s.ev with notify := bits notify 0 9, wake := bits wake 0 9 } }

/-- R189: the classes whose conditions persist. -/
def persisting (s : State) : BitVec 9 :=
  (if s.tamper.list.isEmpty then 0 else EventClass.tamper.mask) |||
    (if s.faultLatched then EventClass.fault.mask else 0)

/-- R189: the named classes that stay pending. -/
def stayPending (s : State) (mask : BitVec 9) : BitVec 9 := s.ev.marks &&& mask &&& persisting s

/-- R189: EVENT_CLEAR after the scan check. -/
def eventClearWork (mask : Word) (s : State) : State :=
  if mask = 0 ∨ maskTooWide mask = true then respond stBadParam [] s
  else
    let m : BitVec 9 := bits mask 0 9
    let stay := stayPending s m
    let after := (s.ev.marks &&& ~~~m) ||| stay
    respondBehind .commandUnit
      ⟨stOk, [place s.ev.marks 0, place after 0, place stay 0, num s.tamper.list.length 0], stay != 0⟩
      { s with ev := { s.ev with marks := after } }

/-! ### Faults (R193, R196) -/

/-- R193: the detector has reached its limit: CLOCK_LOST is latched unless it is latched already. -/
def detectorFull (s : State) : State :=
  let t := { s with flt := { s.flt with detector := Config.refclkLimit } }
  if s.flt.clockLost then t else raise .fault { t with flt := { t.flt with clockLost := true } }

/-- CLOCK_LOST (R193): the detector reaches 4096 (log entry 6). -/
def execClockLost (s : State) : Host.Outcome State Fault Refusal := event true detectorFull s

/-- R196: the latched faults as bits 0 and 1. -/
def faultBits (f : FaultLogic) : Word := flag f.storeError 0 ||| flag f.clockLost 1

/-- R196: the fault logic after a FAULT_CLEAR. -/
def clearedFaults (s : State) : FaultLogic :=
  { s.flt with
    storeError := false
    errorAddr := if s.flt.storeError then 0 else s.flt.errorAddr
    clockLost := s.flt.clockLost && !s.refclkPresent }

/-- R196: FAULT_CLEAR after the scan check. -/
def faultClearWork (s : State) : State :=
  let t := { s with flt := clearedFaults s }
  respond (if t.flt.clockLost then stConditionPresent else stOk)
    [faultBits s.flt, faultBits t.flt, (if s.flt.storeError then s.flt.errorAddr else 0), s.clk.ms,
      flag s.refclkPresent 0, num s.sm.backlog.length 0] t

/-! ### The route clock (R56) -/

/-- R56: the clock advances by 1 and the divider returns to 0. -/
def advanceClock (s : State) : State := { s with clk := { ms := s.clk.ms + 1, divider := 0 } }

/-- R193: a rising edge of REFCLK brings the detector's count back to 0. -/
def refclkSeen (s : State) : State := { s with flt := { s.flt with detector := 0 } }

/-- R56: one rising edge of REFCLK; while CLOCK_LOST is latched it is not counted.  The model's choice (log entry 35): of the
BCLK edge at which REFCLK is sampled (R193) this is the detector's part alone; no sample of SLEEP_IND (R186) and no cycle of a
WAKE pulse (R187) is taken at it. -/
def refclkEdge (s : State) : State :=
  let t := refclkSeen s
  if s.flt.clockLost then t
  else if s.clk.divider = 1023#10 then advanceClock t
  else { t with clk := { t.clk with divider := t.clk.divider + 1 } }

/-- REFCLK_RISING_EDGE (R56, R193). -/
def execRefclkRisingEdge (s : State) : Host.Outcome State Fault Refusal := event true refclkEdge s

/-- ROUTE_CLOCK_ADVANCE (R56): the REFCLK edges run until the divider passes 1023 (log entry 6). -/
def execRouteClockAdvance (s : State) : Host.Outcome State Fault Refusal :=
  event (!s.flt.clockLost) (fun t => advanceClock (refclkSeen t)) s

/-! ### The end of a WAKE pulse (R187) -/

/-- WAKE_PULSE_END (R187): the pulse has run its cycles (log entry 6). -/
def execWakePulseEnd (s : State) : Host.Outcome State Fault Refusal :=
  event (s.ev.pulse.requested || decide (0 < s.ev.pulse.left)) (fun t => { t with ev := { t.ev with pulse := ⟨false, 0⟩ } }) s

/-! ### BCLK edges: the samples of SLEEP_IND, and one edge when no command waits (R186, R187, R193; log entry 5) -/

/-- R187: the pulse at a BCLK edge. -/
def Pulse.edge (p : Pulse) : Pulse := if p.requested then ⟨false, Config.wakeCycles⟩ else ⟨false, p.left - 1⟩

/-- R193: the detector at a BCLK edge without a REFCLK edge. -/
def detectorEdge (s : State) : State :=
  if Config.refclkLimit ≤ s.flt.detector + 1 then detectorFull s
  else { s with flt := { s.flt with detector := s.flt.detector + 1 } }

/-- One BCLK edge.  The model's order at it (log entry 30): the running pulse counts down first, so a request made at the
edge at which the pulse ends comes after WAKE has fallen (R187); then SLEEP_IND is sampled (R186); then the detector counts
and may latch CLOCK_LOST (R193), whose FAULT meets the sleep state that the sample has left. -/
def bclkEdge (s : State) : State :=
  detectorEdge { s with ev := { s.ev with pulse := s.ev.pulse.edge }.sample }

/-- R186: one BCLK edge at which SLEEP_IND shows `level`. -/
def sleepEdge (s : State) (level : Bool) : State := bclkEdge { s with ev := { s.ev with sleepPin := level } }

/-- SLEEP_STATE_CHANGE (R186): SLEEP_IND shows these levels at consecutive BCLK edges; a new level shown at two of them is
the change, one shown at one edge only is none. -/
def execSleepStateChange (levels : List Bool) (s : State) : Host.Outcome State Fault Refusal :=
  event true (fun t => levels.foldl sleepEdge t) s

/-- The tick: what the part does when no command waits. -/
def tick (s : State) : Host.Outcome State Fault Refusal := event true bclkEdge s

/-! ### Reset (R17, R33, R185, R190, R191) -/

/-- R17, R1: the reset state with AREA_SEL `sel`; the store, the SLEEP_IND pin, the waiting commands and the model's free
choices are not the part's and stay. -/
def resetPart (sel : BitVec 3) (s : State) : State :=
  State.afterReset sel s.store s.ev.sleepPin s.ins.ties s.cutMarks s.pending

/-- POWER_ON (R17): power-on completes (log entry 18). -/
def execPowerOn (sel : BitVec 3) (s : State) : Host.Outcome State Fault Refusal := .next (resetPart sel s)

/-- RESET_N_RELEASED (R17). -/
def execResetNReleased (sel : BitVec 3) (s : State) : Host.Outcome State Fault Refusal :=
  .next (if s.path.resetAsserted then resetPart sel s else s)

/-- R17, R33, R107, R164, R182, R190, R191: at the assertion of RESET_N every block takes its reset values and the queue is
discarded; AREA_SEL is sampled and the status writes join at the release (log entry 17). -/
def assertReset (s : State) : State :=
  let t := resetPart s.path.areaSel s
  { t with path := { t.path with resetAsserted := true }, ins := { t.ins with entries := [] } }

/-- RESET_N_ASSERTED (R17). -/
def execResetNAsserted (s : State) : Host.Outcome State Fault Refusal := .next (assertReset s)

end Sys2Proof.Machine
end

