-- ==== Sys2Proof/Machine/Commands.lean ====
section
/-! DEFINITION. The Command Unit (chapter 2): the commit, the five checks, and the hand-over to the owning unit. -/
namespace Sys2Proof.Machine

/-- R27: the commands of the table. -/
inductive HostCommand where
  | routeOpen | routeClose | segmentEnter | segmentLeave | thresholdStage | thresholdNudge | pollNow | meterQuery
  | tamperAck | uploadBegin | uploadAck | uploadAbandon | eventEnable | eventClear | faultClear
deriving DecidableEq, Repr

/-- R27: the code of a command. -/
def codeOf : HostCommand → Byte
  | .routeOpen => 0x01#8
  | .routeClose => 0x02#8
  | .segmentEnter => 0x03#8
  | .segmentLeave => 0x04#8
  | .thresholdStage => 0x05#8
  | .thresholdNudge => 0x06#8
  | .pollNow => 0x07#8
  | .meterQuery => 0x08#8
  | .tamperAck => 0x10#8
  | .uploadBegin => 0x20#8
  | .uploadAck => 0x21#8
  | .uploadAbandon => 0x22#8
  | .eventEnable => 0x30#8
  | .eventClear => 0x31#8
  | .faultClear => 0x32#8

/-- R27: the parameter words of a command. -/
def paramWords : HostCommand → Nat
  | .routeOpen => 0
  | .routeClose => 0
  | .segmentEnter => 1
  | .segmentLeave => 0
  | .thresholdStage => 4
  | .thresholdNudge => 2
  | .pollNow => 1
  | .meterQuery => 1
  | .tamperAck => 1
  | .uploadBegin => 1
  | .uploadAck => 2
  | .uploadAbandon => 1
  | .eventEnable => 2
  | .eventClear => 1
  | .faultClear => 0

/-- R27: the rows of the table. -/
def hostCommands : List HostCommand :=
  [.routeOpen, .routeClose, .segmentEnter, .segmentLeave, .thresholdStage, .thresholdNudge, .pollNow, .meterQuery,
    .tamperAck, .uploadBegin, .uploadAck, .uploadAbandon, .eventEnable, .eventClear, .faultClear]

/-- R27: the code check. -/
def commandOf (code : Byte) : Option HostCommand := hostCommands.find? fun c => decide (codeOf c = code)

/-- Chapter 12.8: Command Slot word 0 of command `c` with the host's header fields. -/
def commandWord (c : HostCommand) (h : CmdHeader) : Word :=
  place h.length 0 ||| place (codeOf c) 8 ||| place h.tag 16 ||| place h.check 24

/-- Parameter word `p` of the parameter copy. -/
def param (ps : List Word) (p : Nat) : Word := ps.getD p 0

/-- R26: the number of parameter words the check byte covers. -/
def checkedWords (w0 : Word) : Nat := min (bits w0 0 8).toNat 15

/-- R26: the check byte of a record. -/
def checkByte (ps : List Word) : Byte :=
  let w0 := param ps 0
  crc8 (wordBytes ((List.range (checkedWords w0)).map fun n => param ps (n + 1)) ++
    [bits w0 0 8, bits w0 8 8, bits w0 16 8])

/-- R26, R27: the check byte, code and length checks: the command, or the status that ends it. -/
def checkRecord (ps : List Word) : HostCommand ⊕ Byte :=
  let w0 := param ps 0
  if checkByte ps ≠ bits w0 24 8 then .inr stBadCrc
  else
    match commandOf (bits w0 8 8) with
    | none => .inr stBadCode
    | some c => if (bits w0 0 8).toNat = paramWords c then .inl c else .inr stBadLength

/-- R29: the owning unit's state and parameter checks and its work. -/
def runCommand (c : HostCommand) (ps : List Word) (s : State) : State :=
  match c with
  | .routeOpen => routeOpenWork s
  | .routeClose => routeCloseWork s
  | .segmentEnter => segmentEnterWork (param ps 1) s
  | .segmentLeave => segmentLeaveWork s
  | .thresholdStage => thresholdStageWork (param ps 1) (param ps 2) (param ps 3) (param ps 4) s
  | .thresholdNudge => thresholdNudgeWork (param ps 1) (param ps 2) s
  | .pollNow => pollNowWork (param ps 1) s
  | .meterQuery => meterQueryWork (param ps 1) s
  | .tamperAck => tamperAckWork (param ps 1) s
  | .uploadBegin => uploadBeginWork (param ps 1) s
  | .uploadAck => uploadAckWork (param ps 1) (param ps 2) s
  | .uploadAbandon => uploadAbandonWork (param ps 1) s
  | .eventEnable => eventEnableWork (param ps 1) (param ps 2) s
  | .eventClear => eventClearWork (param ps 1) s
  | .faultClear => faultClearWork s

/-- R26 to R29: the checks in their order, then the command. -/
def checkAndRun (ps : List Word) (s : State) : State :=
  match checkRecord ps with
  | .inr status => respond status [] s
  | .inl c => if s.scanDone then runCommand c ps s else respond stWrongState [] s

/-- R25: the parameter copy of a commit. -/
def paramCopy (s : State) : List Word := (List.range 16).map fun n => s.shadowWord n

/-- R25: a command begins: in-flight mark, parameter copy, code and tag. -/
def beginFlight (s : State) : State :=
  let ps := paramCopy s
  { s with
    cmd :=
      { s.cmd with
        inFlight := true, params := ps, running := some ⟨bits (param ps 0) 8 8, bits (param ps 0) 16 8, none⟩ } }

/-- R25, R30: a commit on Command Slot word 0, after the shadow has taken it. -/
def commitCommand (s : State) : State :=
  if s.cmd.inFlight then { s with cmd := { s.cmd with collision := true } }
  else checkAndRun (beginFlight s).cmd.params (beginFlight s)

end Sys2Proof.Machine
end

