-- ==== Sys2Proof/Machine/Paths.lean ====
section
/-! DEFINITION. The Path Unit (chapter 1): how an upstream access is held, blocked, substituted, answered or passed, and
the commands of the table that are upstream accesses. -/
namespace Sys2Proof.Machine

/-! ### Writes -/

/-- R8: why a write to the words of a window is blocked, if it is. -/
def blockReason (s : State) : Window → Option BlockReason
  | .response _ => some .partWord
  | .status _ => some .partWord
  | .manifest _ => some .partWord
  | .tx _ w => if w < 7 then some .partWord else none
  | .record k w =>
    if w < 14 then some .recordBody
    else
      match s.slotState k with
      | .inBatch => some .slotInBatch
      | .stored =>
        match s.rowOf k with
        | some r => if r.locked then some .slotLocked else none
        | none => none
      | .unscanned => some .slotNotStored
      | .quarantined => some .slotNotStored
      | .free => some .slotNotStored
      | .writing => some .slotNotStored
  | .image _ => if s.route.state = .loading then some .imageLoading else none
  | .command _ => none
  | .position _ => none
  | .capture _ _ => none
  | .plain => none

/-- The Status Page as a window. -/
def Window.isStatus : Window → Bool
  | .status _ => true
  | .command _ => false
  | .response _ => false
  | .position _ => false
  | .tx _ _ => false
  | .manifest _ => false
  | .capture _ _ => false
  | .image _ => false
  | .record _ _ => false
  | .plain => false

/-- R22: an access outside the Status Page ends the snapshot. -/
def passSnapshot (win : Window) (s : State) : State :=
  { s with path := { s.path with snapshot := if win.isStatus then s.path.snapshot else none } }

/-- R9: a blocked write is counted, recorded and reported. -/
def blockWrite (addr : Nat) (reason : BlockReason) (s : State) : State :=
  raise .blocked
    { s with
      path :=
        { s.path with
          blockedCount := satInc s.path.blockedCount, blockedAddr := BitVec.ofNat 32 addr, blockedReason := reason } }

/-- R14, R65, R100: the producer's notice of one cancelled entry. -/
def cancelNotice (win : Window) (s : State) (e : QEntry) : State :=
  match win with
  | .capture k 15 => cancelVerdict k e.data s
  | .tx k 7 => if e.data = Config.ready then withdrawFrame k s else s
  | _ => s

/-- R14: an upstream write removes the queued entries of its word. -/
def cancelQueued (win : Window) (addr : Nat) (s : State) : State :=
  let gone := s.ins.entries.filter fun e => decide (e.addr = addr)
  if gone.isEmpty then s
  else
    gone.foldl (cancelNotice win)
      { s with ins := s.ins.withEntries (s.ins.entries.filter fun e => decide (e.addr ≠ addr)) }

/-- R3: the write passes to the store as it came. -/
def storeWrite (addr : Nat) (w : BusWord) (be : BitVec 4) (s : State) : State :=
  { s with store := s.store.write addr w be }

/-- R5: the shadow word takes the enabled bytes. -/
def takeShadow (addr : Nat) (data : Word) (be : BitVec 4) (s : State) : State :=
  let key := shadowKey s.path.areaSel addr
  { s with path := { s.path with shadow := setD 0 s.path.shadow key (mergeBytes (s.shadowWord key) data be) } }

/-- R3, R5: the write passes and the shadow takes it. -/
def passShadowed (addr : Nat) (w : BusWord) (be : BitVec 4) (s : State) : State :=
  takeShadow addr w.data be (storeWrite addr w be s)

/-- R7, R62: the commit on word 15 of armed slot `k`: the interim verdict goes to the store, the data to the shadow. -/
def takeCaptureCommit (k addr : Nat) (w : BusWord) (s : State) : State :=
  completeSlot k
    (takeShadow addr w.data allLanes { s with store := s.store.writeOwn addr (pendingWord s k) })

/-- R7: a commit on word 15 of an armed capture slot. -/
def isCaptureCommit (s : State) (win : Window) (be : BitVec 4) : Bool :=
  match win with
  | .capture k 15 => decide (be = allLanes) && (s.capSlot k).armed
  | _ => false

/-- R3 to R7: a write that passes: what its window makes of it. -/
def passWrite (win : Window) (addr : Nat) (w : BusWord) (be : BitVec 4) (s : State) : State :=
  match win with
  | .command n =>
    let t := passShadowed addr w be s
    if n = 0 ∧ be = allLanes then commitCommand t else t
  | .position n =>
    let t := passShadowed addr w be s
    if n = 3 ∧ be = allLanes then commitPosition t else t
  | .capture k n =>
    if isCaptureCommit s (.capture k n) be then takeCaptureCommit k addr w s
    else if n = 0 then armSlot k (passShadowed addr w be s)
    else passShadowed addr w be s
  | .tx k n =>
    let t := storeWrite addr w be s
    if n = 7 ∧ be = allLanes then takeReport k w.data t else t
  | .response _ => storeWrite addr w be s
  | .status _ => storeWrite addr w be s
  | .manifest _ => storeWrite addr w be s
  | .image _ => storeWrite addr w be s
  | .record _ _ => storeWrite addr w be s
  | .plain => storeWrite addr w be s

/-- An upstream write to a word of window `win` is taken: blocked (R8), held for want of a Judge Queue place (R63), or
passed. -/
def takeWriteIn (win : Window) (addr : Nat) (w : BusWord) (be : BitVec 4) (s : State) : State :=
  match blockReason s win with
  | some reason => blockWrite addr reason (passSnapshot win s)
  | none =>
    if isCaptureCommit s win be && judgeFull s then
      { s with path := { s.path with held := some ⟨.write addr w be, .judgeQueue⟩ } }
    else passWrite win addr w be (cancelQueued win addr (passSnapshot win s))

/-- An upstream write is taken in the window of its address (R2). -/
def takeWrite (addr : Nat) (w : BusWord) (be : BitVec 4) (s : State) : State :=
  takeWriteIn (windowOf s.path.areaSel addr) addr w be s

/-! ### Reads -/

/-- R3, R13: the read is answered from the queue, or by the store. -/
def serve (s : State) (addr : Nat) (d : Disturb) : BusWord :=
  match s.ins.newest addr with
  | some e => ⟨e.data, evenParity e.data⟩
  | none => s.store.answer addr d

/-- R23: the read completes with `w` on CD and CP. -/
def answerRead (addr : Nat) (w : BusWord) (s : State) : State :=
  { s with path := { s.path with answer := some ⟨addr, w.data, w.parity⟩ } }

/-- R18, R22: the part's own answer, with even parity. -/
def answerOwn (addr : Nat) (data : Word) (s : State) : State := answerRead addr ⟨data, evenParity data⟩ s

/-- R21: a read of Status Page word 0 takes a snapshot and is answered from it. -/
def readSnapshot (addr : Nat) (s : State) : State :=
  answerOwn addr (statusWord s 0) { s with path := { s.path with snapshot := some (statusWords s) } }

/-- R22: a read of Status Page word `n`, 1 to 31. -/
def readStatus (n addr : Nat) (d : Disturb) (s : State) : State :=
  match s.path.snapshot with
  | some latch =>
    answerOwn addr (latch.getD n 0)
      { s with path := { s.path with snapshot := if n = 31 then none else some latch } }
  | none => answerRead addr (serve s addr d) s

/-- R4, R64, R173: the listener's notice of a read served with `data`. -/
def readNotice (win : Window) (data : Word) (s : State) : State :=
  match win with
  | .capture k 15 => verdictRead k data s
  | .record k w => fetchRead k w s
  | _ => s

/-- An upstream read of a word of window `win` is taken. -/
def takeReadIn (win : Window) (addr : Nat) (d : Disturb) (s : State) : State :=
  match win with
  | .status 0 => readSnapshot addr s
  | .status n => readStatus n addr d s
  | _ => readNotice win (serve s addr d).data (answerRead addr (serve s addr d) (passSnapshot win s))

/-- An upstream read is taken in the window of its address (R2). -/
def takeRead (addr : Nat) (d : Disturb) (s : State) : State := takeReadIn (windowOf s.path.areaSel addr) addr d s

/-! ### Accesses on the bus (R16, R17, R23, R63) -/

/-- The access in progress is taken. -/
def takeAccess (a : Access) (s : State) : State :=
  match a with
  | .write addr w be => takeWrite addr w be s
  | .read addr _ d => takeRead addr d s

/-- R16: an access that arrives while the throttle mark is set is held. -/
def arrive (a : Access) (s : State) : State :=
  if s.ins.throttle then { s with path := { s.path with held := some ⟨a, .throttle⟩ } } else takeAccess a s

/-- An upstream access begins: the bus carries no other while one is held (R63; log entry 3). -/
def upstream (a : Access) (s : State) : Host.Outcome State Fault Refusal := event s.path.held.isNone (arrive a) s

/-- The access held for `r`. -/
def heldFor (r : HoldReason) (s : State) : Bool :=
  match s.path.held with
  | some h => decide (h.reason = r)
  | none => false

/-- R16, R63: the held access is taken as if it had just arrived. -/
def takeHeld (s : State) : State :=
  match s.path.held with
  | some h => takeAccess h.access { s with path := { s.path with held := none } }
  | none => s

/-- THROTTLE_HOLD_END (R16). -/
def execThrottleHoldEnd (s : State) : Host.Outcome State Fault Refusal :=
  event (heldFor .throttle s && heldDue s) takeHeld s

/-- HELD_CAPTURE_COMMIT_TAKEN (R63): both holds have ended. -/
def execHeldCaptureCommitTaken (s : State) : Host.Outcome State Fault Refusal :=
  event (heldFor .judgeQueue s && heldDue s) takeHeld s

/-! ### The commands that are upstream accesses -/

/-- UPSTREAM_WRITE (R3). -/
def execUpstreamWrite (addr : Word) (w : BusWord) (be : BitVec 4) (s : State) : Host.Outcome State Fault Refusal :=
  upstream (.write (accessAddr addr) w be) s

/-- BLOCKED_WRITE (R8): whether the write is blocked is decided when it is taken (log entry 4). -/
def execBlockedWrite (addr : Word) (w : BusWord) (be : BitVec 4) (s : State) : Host.Outcome State Fault Refusal :=
  upstream (.write (accessAddr addr) w be) s

/-- UPSTREAM_READ (R3, R22). -/
def execUpstreamRead (addr : Word) (be : BitVec 4) (d : Disturb) (s : State) : Host.Outcome State Fault Refusal :=
  upstream (.read (accessAddr addr) be d) s

/-- STATUS_SNAPSHOT_READ (R21). -/
def execStatusSnapshotRead (be : BitVec 4) (s : State) : Host.Outcome State Fault Refusal :=
  upstream (.read (statusAddr s.path.areaSel 0) be ⟨0, 0⟩) s

/-- STATUS_WORD_READ (R22). -/
def execStatusWordRead (word : BitVec 5) (be : BitVec 4) (d : Disturb) (s : State) : Host.Outcome State Fault Refusal :=
  upstream (.read (statusAddr s.path.areaSel word.toNat) be d) s

/-- CAPTURE_VERDICT_READ (R64). -/
def execCaptureVerdictRead (slot : BitVec 8) (be : BitVec 4) (d : Disturb) (s : State) :
    Host.Outcome State Fault Refusal :=
  upstream (.read (captureAddr s.path.areaSel slot.toNat 15) be d) s

/-- READING_STORE_READ (R173). -/
def execReadingStoreRead (slot : BitVec 13) (word : BitVec 4) (be : BitVec 4) (d : Disturb) (s : State) :
    Host.Outcome State Fault Refusal :=
  upstream (.read (recordAddr s.path.areaSel slot.toNat word.toNat) be d) s

/-- POSITION_COMMIT (R57). -/
def execPositionCommit (w : BusWord) (s : State) : Host.Outcome State Fault Refusal :=
  upstream (.write (positionAddr s.path.areaSel 3) w allLanes) s

/-- CAPTURE_ARM (R60). -/
def execCaptureArm (slot : BitVec 8) (w : BusWord) (be : BitVec 4) (s : State) : Host.Outcome State Fault Refusal :=
  upstream (.write (captureAddr s.path.areaSel slot.toNat 0) w be) s

/-- CAPTURE_COMMIT (R62). -/
def execCaptureCommit (slot : BitVec 8) (w : BusWord) (s : State) : Host.Outcome State Fault Refusal :=
  upstream (.write (captureAddr s.path.areaSel slot.toNat 15) w allLanes) s

/-- TX_REPORT (R98). -/
def execTxReport (slot : BitVec 5) (w : BusWord) (s : State) : Host.Outcome State Fault Refusal :=
  upstream (.write (txAddr s.path.areaSel slot.toNat 7) w allLanes) s

/-- COMMIT_COLLISION (R30): whether a command is in flight is tested when the commit is taken (R25). -/
def execCommitCollision (w : BusWord) (s : State) : Host.Outcome State Fault Refusal :=
  upstream (.write (commandAddr s.path.areaSel 0) w allLanes) s

/-- A commit of command `c`: Command Slot word 0 written with the host's header fields (R25). -/
def commitOf (c : HostCommand) (h : CmdHeader) (s : State) : Host.Outcome State Fault Refusal :=
  upstream (.write (commandAddr s.path.areaSel 0) ⟨commandWord c h, h.parity⟩ allLanes) s

/-- ROUTE_OPEN (R37). -/
def execRouteOpen (h : CmdHeader) (s : State) : Host.Outcome State Fault Refusal := commitOf .routeOpen h s
/-- ROUTE_CLOSE (R154). -/
def execRouteClose (h : CmdHeader) (s : State) : Host.Outcome State Fault Refusal := commitOf .routeClose h s
/-- SEGMENT_ENTER (R87). -/
def execSegmentEnter (h : CmdHeader) (s : State) : Host.Outcome State Fault Refusal := commitOf .segmentEnter h s
/-- SEGMENT_LEAVE (R88). -/
def execSegmentLeave (h : CmdHeader) (s : State) : Host.Outcome State Fault Refusal := commitOf .segmentLeave h s
/-- THRESHOLD_STAGE (R90). -/
def execThresholdStage (h : CmdHeader) (s : State) : Host.Outcome State Fault Refusal := commitOf .thresholdStage h s
/-- THRESHOLD_NUDGE (R91). -/
def execThresholdNudge (h : CmdHeader) (s : State) : Host.Outcome State Fault Refusal := commitOf .thresholdNudge h s
/-- POLL_NOW (R94). -/
def execPollNow (h : CmdHeader) (s : State) : Host.Outcome State Fault Refusal := commitOf .pollNow h s
/-- METER_QUERY (R55). -/
def execMeterQuery (h : CmdHeader) (s : State) : Host.Outcome State Fault Refusal := commitOf .meterQuery h s
/-- TAMPER_ACK (R122). -/
def execTamperAck (h : CmdHeader) (s : State) : Host.Outcome State Fault Refusal := commitOf .tamperAck h s
/-- UPLOAD_BEGIN (R168). -/
def execUploadBegin (h : CmdHeader) (s : State) : Host.Outcome State Fault Refusal := commitOf .uploadBegin h s
/-- UPLOAD_ACK (R175). -/
def execUploadAck (h : CmdHeader) (s : State) : Host.Outcome State Fault Refusal := commitOf .uploadAck h s
/-- UPLOAD_ABANDON (R179). -/
def execUploadAbandon (h : CmdHeader) (s : State) : Host.Outcome State Fault Refusal := commitOf .uploadAbandon h s
/-- EVENT_ENABLE (R188). -/
def execEventEnable (h : CmdHeader) (s : State) : Host.Outcome State Fault Refusal := commitOf .eventEnable h s
/-- EVENT_CLEAR (R189). -/
def execEventClear (h : CmdHeader) (s : State) : Host.Outcome State Fault Refusal := commitOf .eventClear h s
/-- FAULT_CLEAR (R196). -/
def execFaultClear (h : CmdHeader) (s : State) : Host.Outcome State Fault Refusal := commitOf .faultClear h s

end Sys2Proof.Machine
end

