-- ==== Sys2Proof/Machine/Dispatch.lean ====
section
/-! DEFINITION. One arm per command: each a direct call of its meaning. -/
namespace Sys2Proof.Machine

def exec (i : Instr) (s : State) : Host.Outcome State Fault Refusal :=
  match i with
  | .powerOn areaSel => Sys2Proof.Machine.execPowerOn areaSel s
  | .resetNAsserted => Sys2Proof.Machine.execResetNAsserted s
  | .resetNReleased areaSel => Sys2Proof.Machine.execResetNReleased areaSel s
  | .upstreamWrite addr w be => Sys2Proof.Machine.execUpstreamWrite addr w be s
  | .blockedWrite addr w be => Sys2Proof.Machine.execBlockedWrite addr w be s
  | .throttleHoldEnd => Sys2Proof.Machine.execThrottleHoldEnd s
  | .statusSnapshotRead be => Sys2Proof.Machine.execStatusSnapshotRead be s
  | .statusWordRead word be d => Sys2Proof.Machine.execStatusWordRead word be d s
  | .commitCollision w => Sys2Proof.Machine.execCommitCollision w s
  | .routeOpen h => Sys2Proof.Machine.execRouteOpen h s
  | .routeClose h => Sys2Proof.Machine.execRouteClose h s
  | .segmentEnter h => Sys2Proof.Machine.execSegmentEnter h s
  | .segmentLeave h => Sys2Proof.Machine.execSegmentLeave h s
  | .thresholdStage h => Sys2Proof.Machine.execThresholdStage h s
  | .thresholdNudge h => Sys2Proof.Machine.execThresholdNudge h s
  | .pollNow h => Sys2Proof.Machine.execPollNow h s
  | .meterQuery h => Sys2Proof.Machine.execMeterQuery h s
  | .tamperAck h => Sys2Proof.Machine.execTamperAck h s
  | .uploadBegin h => Sys2Proof.Machine.execUploadBegin h s
  | .uploadAck h => Sys2Proof.Machine.execUploadAck h s
  | .uploadAbandon h => Sys2Proof.Machine.execUploadAbandon h s
  | .eventEnable h => Sys2Proof.Machine.execEventEnable h s
  | .eventClear h => Sys2Proof.Machine.execEventClear h s
  | .faultClear h => Sys2Proof.Machine.execFaultClear h s
  | .commandFlightEnd => Sys2Proof.Machine.execCommandFlightEnd s
  | .positionCommit w => Sys2Proof.Machine.execPositionCommit w s
  | .captureArm slot w be => Sys2Proof.Machine.execCaptureArm slot w be s
  | .captureCommit slot w => Sys2Proof.Machine.execCaptureCommit slot w s
  | .heldCaptureCommitTaken => Sys2Proof.Machine.execHeldCaptureCommitTaken s
  | .captureVerdictRead slot be d => Sys2Proof.Machine.execCaptureVerdictRead slot be d s
  | .judgeBurst => Sys2Proof.Machine.execJudgeBurst s
  | .deferredJudge => Sys2Proof.Machine.execDeferredJudge s
  | .routeNumberRead d => Sys2Proof.Machine.execRouteNumberRead d s
  | .headerRead d => Sys2Proof.Machine.execHeaderRead d s
  | .entryRead d => Sys2Proof.Machine.execEntryRead d s
  | .scanRead d => Sys2Proof.Machine.execScanRead d s
  | .scanRebuildRead d => Sys2Proof.Machine.execScanRebuildRead d s
  | .buildRead d => Sys2Proof.Machine.execBuildRead d s
  | .insertQueueJoin => Sys2Proof.Machine.execInsertQueueJoin s
  | .insertIssue => Sys2Proof.Machine.execInsertIssue s
  | .composition => Sys2Proof.Machine.execComposition s
  | .frameBegin => Sys2Proof.Machine.execFrameBegin s
  | .txReport slot w => Sys2Proof.Machine.execTxReport slot w s
  | .listenExpiry meter => Sys2Proof.Machine.execListenExpiry meter s
  | .holdoffRelease meter => Sys2Proof.Machine.execHoldoffRelease meter s
  | .readingStoreRead slot word be d => Sys2Proof.Machine.execReadingStoreRead slot word be d s
  | .routeClockAdvance => Sys2Proof.Machine.execRouteClockAdvance s
  | .clockLost => Sys2Proof.Machine.execClockLost s
  | .sleepStateChange levels => Sys2Proof.Machine.execSleepStateChange levels s
  | .wakePulseEnd => Sys2Proof.Machine.execWakePulseEnd s
  | .upstreamRead addr be d => Sys2Proof.Machine.execUpstreamRead addr be d s
  | .refclkRisingEdge => Sys2Proof.Machine.execRefclkRisingEdge s

end Sys2Proof.Machine
end

