-- ==== Sys2Proof/Safety.lean ====
section
/-! DEFINITION. The predicates claims are stated with: frames over the store, the conditions under which a command is taken,
the state a commit leaves, and the invariants of the part. -/
namespace Sys2Proof.Machine

/-! ### Frames over the store -/

/-- Byte and parity bit at `a` are as before. -/
def ByteKept (s t : State) (a : Nat) : Prop :=
  t.store.byte a = s.store.byte a ∧ t.store.parityBit a = s.store.parityBit a

/-- Every byte of the store, with its parity bit, is as before. -/
def StoreKept (s t : State) : Prop := ∀ a, ByteKept s t a

/-- Every byte outside the four of the word at `a` is as before. -/
def StoresOnlyWord (s t : State) (a : Nat) : Prop := ∀ x, x < a ∨ a + 4 ≤ x → ByteKept s t x

/-- The address of a held upstream access when it is a write. -/
def heldTarget (s : State) : Option Nat :=
  match s.path.held with
  | some ⟨.write a _ _, _⟩ => some a
  | _ => none

/-- The byte address of the one word that a command may store to, computed from its operands and the state. -/
def storeTarget (s : State) : Instr → Option Nat
  | .upstreamWrite addr _ _ => some (accessAddr addr)
  | .blockedWrite addr _ _ => some (accessAddr addr)
  | .throttleHoldEnd => heldTarget s
  | .heldCaptureCommitTaken => heldTarget s
  | .commitCollision _ => some (commandAddr s.path.areaSel 0)
  | .routeOpen _ => some (commandAddr s.path.areaSel 0)
  | .routeClose _ => some (commandAddr s.path.areaSel 0)
  | .segmentEnter _ => some (commandAddr s.path.areaSel 0)
  | .segmentLeave _ => some (commandAddr s.path.areaSel 0)
  | .thresholdStage _ => some (commandAddr s.path.areaSel 0)
  | .thresholdNudge _ => some (commandAddr s.path.areaSel 0)
  | .pollNow _ => some (commandAddr s.path.areaSel 0)
  | .meterQuery _ => some (commandAddr s.path.areaSel 0)
  | .tamperAck _ => some (commandAddr s.path.areaSel 0)
  | .uploadBegin _ => some (commandAddr s.path.areaSel 0)
  | .uploadAck _ => some (commandAddr s.path.areaSel 0)
  | .uploadAbandon _ => some (commandAddr s.path.areaSel 0)
  | .eventEnable _ => some (commandAddr s.path.areaSel 0)
  | .eventClear _ => some (commandAddr s.path.areaSel 0)
  | .faultClear _ => some (commandAddr s.path.areaSel 0)
  | .positionCommit _ => some (positionAddr s.path.areaSel 3)
  | .captureArm slot _ _ => some (captureAddr s.path.areaSel slot.toNat 0)
  | .captureCommit slot _ => some (captureAddr s.path.areaSel slot.toNat 15)
  | .txReport slot _ => some (txAddr s.path.areaSel slot.toNat 7)
  | .insertIssue => s.ins.entries.head?.map fun e => e.addr
  | .powerOn _ => none
  | .resetNAsserted => none
  | .resetNReleased _ => none
  | .statusSnapshotRead _ => none
  | .statusWordRead _ _ _ => none
  | .commandFlightEnd => none
  | .captureVerdictRead _ _ _ => none
  | .judgeBurst => none
  | .deferredJudge => none
  | .routeNumberRead _ => none
  | .headerRead _ => none
  | .entryRead _ => none
  | .scanRead _ => none
  | .scanRebuildRead _ => none
  | .buildRead _ => none
  | .insertQueueJoin => none
  | .composition => none
  | .frameBegin => none
  | .listenExpiry _ => none
  | .holdoffRelease _ => none
  | .readingStoreRead _ _ _ _ => none
  | .routeClockAdvance => none
  | .clockLost => none
  | .sleepStateChange _ => none
  | .wakePulseEnd => none
  | .upstreamRead _ _ _ => none
  | .refclkRisingEdge => none

/-- POWER_ON and the two edges of RESET_N: the commands that act while RESET_N is asserted. -/
def isResetCommand : Instr → Bool
  | .powerOn _ => true
  | .resetNAsserted => true
  | .resetNReleased _ => true
  | _ => false

/-! ### When a command is taken -/

/-- The part is out of reset. -/
abbrev Awake (s : State) : Prop := s.path.resetAsserted = false

/-- An upstream access is taken at once: out of reset, none held (R63), the throttle mark clear (R16). -/
abbrev BusFree (s : State) : Prop := Awake s ∧ s.path.held = none ∧ s.ins.throttle = false

/-- No queued write is for the word at `a`. -/
abbrev NotQueued (s : State) (a : Nat) : Prop := ∀ e ∈ s.ins.entries, e.addr ≠ a

/-- The state in which an upstream access outside the Status Page finds the snapshot ended (R22). -/
def unsnapped (s : State) : State := { s with path := { s.path with snapshot := none } }

/-- A write of `w` under `be` has passed to the word at `a` (R3, R22). -/
def written (a : Nat) (w : BusWord) (be : BitVec 4) (s : State) : State :=
  { unsnapped s with store := s.store.write a w be }

/-- A write of `w` under `be` has passed to the word at `a`, and the shadow word under `key` has taken its bytes (R3, R5). -/
def shadowed (key a : Nat) (w : BusWord) (be : BitVec 4) (s : State) : State :=
  { written a w be s with
    path :=
      { s.path with
        snapshot := none, shadow := setD 0 s.path.shadow key (mergeBytes (getD 0 s.path.shadow key) w.data be) } }

/-- The queue without the entries for the word at `a` (R14). -/
def dequeued (a : Nat) (s : State) : Inserts := s.ins.withEntries (s.ins.entries.filter fun e => decide (e.addr ≠ a))

/-- What an upstream read of the word at `a` is answered with: the newest queued data, or the store's answer (R3, R13). -/
def Answers (s : State) (a : Nat) (d : Disturb) (w : BusWord) : Prop :=
  (∃ e, s.ins.newest a = some e ∧ w = ⟨e.data, evenParity e.data⟩) ∨
    (s.ins.newest a = none ∧ w = ⟨s.store.word a ^^^ d.data, s.store.parity a ^^^ d.parity⟩)

/-- A read of the word at `a` outside the Status Page has been answered with `w` (R22, R23). -/
def answered (a : Nat) (w : BusWord) (s : State) : State :=
  { s with path := { s.path with snapshot := none, answer := some ⟨a, w.data, w.parity⟩ } }

/-! ### Judging a burst (chapter 4) -/

/-- R66 to R71: in OPEN the burst `b` at the head of the Judge Queue is accepted for the entry `m` at index `i`. -/
abbrev Judged (b : Burst) (q : List Burst) (i : Nat) (m : Meter) (s : State) : Prop :=
  Awake s ∧ s.cap.judgeQ = b :: q ∧ s.ins.isWaiting .captureUnit = false ∧ s.cap.deferred = [] ∧
    s.route.state = .opened ∧ b.crcGood = true ∧ b.frameGood = true ∧ s.route.active.floor.toInt ≤ b.rssi.toInt ∧
    findMeter s.dir b.meter = some i ∧ s.dir[i]? = some m

/-- R72, R82: the burst has left the queue, is counted, and its entry has taken flags, signal and path; its causes are still
to be added. -/
def acceptedState (b : Burst) (q : List Burst) (i : Nat) (s : State) : State :=
  { s with
    cap := { s.cap with judgeQ := q, routeJudged := satInc s.cap.routeJudged }
    dir :=
      s.dir.modify i fun x =>
        { x with
          flags := x.flags ||| b.meterFlags, best := betterRssi x.best b.rssi
          learned := learnPath x.learned b.path b.rssi } }

/-- R74: whether a response to the meter at index `i` comes late. -/
def Late (s : State) (i : Nat) (m : Meter) : Prop :=
  m.state = .unreachable ∨ ∃ e r, pollOf s i = some e ∧ e.sub = .holdoff r

/-- R72, R81: the verdict flags of an accepted burst before its classification: OVERRUN, CLASH, TAMPER for a cause found. -/
def earlyFlags (b : Burst) (m : Meter) : Word :=
  flag b.overrun 8 ||| (if b.typeCode = m.img.typeCode then 0 else 0x1000#32) |||
    (if burstCauses m.img b.typeCode b.meterFlags b.counter = 0 then 0 else 0x200#32)

/-- R74: the verdict flags `fl` of an accepted burst that is no matched response: UNASKED for a response, and LATE. -/
def OrdinaryFlags (b : Burst) (i : Nat) (m : Meter) (s : State) (fl : Word) : Prop :=
  (b.kind = 1#8 ∧ fl = earlyFlags b m) ∨
    (b.kind = 2#8 ∧ (∀ e x, pollOf s i = some e → e.sub ≠ .listening x) ∧
      ((Late s i m ∧ fl = earlyFlags b m ||| 0xC00#32) ∨ (¬Late s i m ∧ fl = earlyFlags b m ||| 0x400#32)))

/-- R75: the burst repeats a transmit counter of its meter `m`. -/
def Duplicate (b : Burst) (m : Meter) : Prop :=
  (∃ x ∈ m.window, x.counter = b.counter) ∨ (m.state = .read ∧ m.lastCounter = some b.counter)

/-- R72, R109: the accepted burst's state with its causes added. -/
def causedState (b : Burst) (q : List Burst) (i : Nat) (m : Meter) (s : State) : State :=
  addCauses i (burstCauses m.img b.typeCode b.meterFlags b.counter) (acceptedState b q i s)

/-- R76: the entry `x` after the vote that adds candidate `c`. -/
def votedMeter (b : Burst) (c : Candidate) (x : Meter) : Meter :=
  { x with window := x.window ++ [c], votes := x.votes + 1, lastCounter := some b.counter }

/-- R76: the candidate a burst adds. -/
def candidateOf (b : Burst) (limit : Half) : Candidate :=
  ⟨b.reading, b.counter, b.stamp, freshFix b.fix b.stamp limit, b.rssi, b.path⟩

/-- R76: the votes for a reading. -/
def votesIn (window : List Candidate) (r : Reading) : Nat := window.countP fun x => decide (x.reading = r)

/-- R78, R137: the READING request of the entry at index `i` has joined the Backlog. -/
def readingAsked (i : Nat) (s : State) : State :=
  { s with
    dir := s.dir.modify i fun x => { x with requested := true }
    sm := { s.sm with backlog := s.sm.backlog ++ [.reading i] } }

/-- From `s` to `t` only the entry at index `i`, the segment table, the Poll Unit and the Event Unit may have changed. -/
def VoteFrame (i : Nat) (s t : State) : Prop :=
  t.store = s.store ∧ t.path = s.path ∧ t.ins = s.ins ∧ t.cmd = s.cmd ∧ t.clk = s.clk ∧ t.cap = s.cap ∧ t.sm = s.sm ∧
    t.tamper = s.tamper ∧ t.up = s.up ∧ t.flt = s.flt ∧ t.route.state = s.route.state ∧
    t.route.number = s.route.number ∧ t.route.active = s.route.active ∧ ∀ j, j ≠ i → t.dir[j]? = s.dir[j]?

/-! ### Segments (R85) -/

/-- R84, R85: READ and UNREACHABLE resolve a meter. -/
abbrev Resolved (st : MeterState) : Prop := st = .read ∨ st = .unreachable

/-- R85: the segment table after a meter of segment `g` has moved from `old` to `new`: the count falls, and a segment in SWEEP
becomes DONE at 0; or it rises; or nothing changes. -/
def movedSegs (g : Nat) (old new : MeterState) (segs : List Segment) : List Segment :=
  segs.modify g fun x =>
    if Resolved new ∧ ¬Resolved old then
      ⟨if x.state = .sweep ∧ x.unresolved ≤ 1 then .done else x.state, x.unresolved - 1⟩
    else if Resolved old ∧ ¬Resolved new then ⟨x.state, x.unresolved + 1⟩
    else x

/-- R85: SEGMENT_DONE is raised when that move has made a segment in SWEEP DONE. -/
def movedEvents (g : Nat) (old new : MeterState) (segs : List Segment) (e : Events) : Events :=
  if Resolved new ∧ ¬Resolved old ∧ (segs[g]?.any fun x => decide (x.state = .sweep ∧ x.unresolved ≤ 1)) = true then
    e.occur .segmentDone
  else e

/-! ### The Status Page (chapter 12.10) -/

/-- R21, R53: a count of the directory, shown while the route is OPEN or CLOSING. -/
def shownCount (s : State) (n : Nat) : Word :=
  if s.route.state = .opened ∨ s.route.state = .closing then BitVec.ofNat 32 n else 0

/-- Chapter 12.10: the values of Status Page words 0 to 31, row by row. -/
def statusTable (s : State) : List Word :=
  [flag (decide (s.sm.scan = .done)) 0 |||
      ((match s.route.state with
        | .noRoute => 0#32
        | .loading => 1#32
        | .opened => 2#32
        | .closing => 3#32 : Word) <<< 8) |||
      flag (s.flt.storeError || s.flt.clockLost) 16 ||| flag s.cmd.inFlight 17,
    s.route.number.setWidth 32,
    (match s.route.activeSeg with
      | none => 0xFFFF#32
      | some g => BitVec.ofNat 32 g),
    s.clk.ms, shownCount s s.dir.length, shownCount s (s.dir.countP fun m => decide (m.state = .read)),
    shownCount s (s.dir.countP fun m => decide (m.state = .unreachable)), BitVec.ofNat 32 s.poll.list.length,
    BitVec.ofNat 32 (s.poll.list.countP fun e => match e.sub with
      | .queued => false
      | .inRing _ => true
      | .listening _ => true
      | .holdoff _ => false),
    BitVec.ofNat 32 s.freeCount, BitVec.ofNat 32 s.storedCount, BitVec.ofNat 32 s.inBatchCount,
    BitVec.ofNat 32 s.sm.backlog.length, BitVec.ofNat 32 s.tamper.list.length, s.tamper.overflow.setWidth 32,
    s.up.lastId.setWidth 32 |||
      ((match (s.up.batch.map fun b => b.state : Option BatchState) with
        | none => 0#32
        | some .building => 1#32
        | some .opened => 2#32
        | some .fetched => 3#32 : Word) <<< 16),
    s.ev.marks.setWidth 32, s.ev.notify.setWidth 32, s.ev.wake.setWidth 32,
    flag s.flt.storeError 0 ||| flag s.flt.clockLost 1, s.flt.errorAddr, s.cap.overruns.setWidth 32,
    s.cap.unjudged.setWidth 32, s.path.blockedCount.setWidth 32, s.path.blockedAddr,
    (match s.path.blockedReason with
      | .none => 0#32
      | .partWord => 1#32
      | .recordBody => 2#32
      | .slotInBatch => 3#32
      | .slotNotStored => 4#32
      | .slotLocked => 5#32
      | .imageLoading => 6#32),
    s.cap.unknownMeters.setWidth 32, BitVec.ofNat 32 s.quarantinedCount, s.sm.nextSeq, 0, 0, 0]

/-! ### Records, load and build -/

/-- R50, R51: the directory entry that the eight entry words `ws` make, with its stored path (chapter 12.5). -/
def loadedMeter (ws : List Word) (stored : Option RelayPath) : Meter :=
  { img :=
      { id := ws.getD 0 0, typeCode := bits (ws.getD 1 0) 0 8, segment := (bits (ws.getD 2 0) 0 16).toNat
        mustConsume := (ws.getD 1 0).getLsbD 8, hasCounter := (ws.getD 1 0).getLsbD 9, stored := stored
        refReading := ⟨bits (ws.getD 4 0) 0 16 ++ ws.getD 3 0, bits (ws.getD 4 0) 16 8⟩
        refCounter := bits (ws.getD 2 0) 16 16, maxDelta := ws.getD 5 0 }
    state := .expected, window := [], confirmed := none, votes := 0, repeats := 0, best := none, lastCounter := none
    flags := 0, learned := none, attempts := 0, causes := 0, written := 0, pendingNote := false, ackPending := false
    requested := false, first := none }

/-- R140: the writes of a record: body words 1 to 15, then the header with its issue notice. -/
def recordGiven (sel : BitVec 3) (k : Nat) (body : List Word) (header : Word) : List QWrite :=
  (List.range 15).map (fun n => QWrite.word (recordAddr sel k (n + 1)) (body.getD n 0) false) ++
    [.word (recordAddr sel k 0) header true]

/-- R168: the writes of a manifest header: words 1, 2 and 3, then word 0. -/
def manifestGiven (sel : BitVec 3) (id : Half) (state count : Nat) (digest : Word) : List (Producer × QWrite) :=
  [(.uploadUnit, .word (manifestAddr sel 1) (BitVec.ofNat 32 count) false),
    (.uploadUnit, .word (manifestAddr sel 2) digest false), (.uploadUnit, .word (manifestAddr sel 3) 0 false),
    (.uploadUnit, .word (manifestAddr sel 0) (id.setWidth 32 ||| (BitVec.ofNat 32 state <<< 16)) false)]

/-- R40: the header words `h` read for route `n` lie in their ranges. -/
def HeaderInRange (h : List Word) (n : Half) : Prop :=
  h.getD 0 0 = 0xC4A5E140#32 ∧ bits (h.getD 1 0) 0 16 = n ∧
    (1 ≤ (bits (h.getD 2 0) 0 16).toNat ∧ (bits (h.getD 2 0) 0 16).toNat ≤ 4096) ∧
    (1 ≤ (bits (h.getD 2 0) 16 16).toNat ∧ (bits (h.getD 2 0) 16 16).toNat ≤ 256) ∧
    (1 ≤ (bits (h.getD 3 0) 0 8).toNat ∧ (bits (h.getD 3 0) 0 8).toNat ≤ 3) ∧ (bits (h.getD 3 0) 8 8).toNat ≤ 3 ∧
    (20 ≤ (bits (h.getD 4 0) 0 16).toNat ∧ (bits (h.getD 4 0) 0 16).toNat ≤ 2000) ∧
    (bits (h.getD 4 0) 16 16).toNat ≤ 1000 ∧
    (100 ≤ (bits (h.getD 5 0) 0 16).toNat ∧ (bits (h.getD 5 0) 0 16).toNat ≤ 60000) ∧
    (100 ≤ (bits (h.getD 5 0) 16 16).toNat ∧ (bits (h.getD 5 0) 16 16).toNat ≤ 60000) ∧
    (-140 ≤ (bits (h.getD 6 0) 0 16).toInt ∧ (bits (h.getD 6 0) 0 16).toInt ≤ -20)

/-- R29: the running command has its status and results. -/
def AnswersWith (s t : State) (status : Byte) (results : List Word) : Prop :=
  t.cmd.running = s.cmd.running.map fun x => { x with response := some ⟨status, results, false⟩ }

/-- R44, R49: the load of route `n` is undone with a status, a place and a detail; each held burst leaves with NO_ROUTE, which
is written when its slot mark is set, and then its slot's unread mark is set; the response follows.  The route parameters and
the unjudged count stay. -/
def LoadUndone (s u : State) (status : Byte) (at_ detail : Word) (n : Half) : Prop :=
  u.route.state = .noRoute ∧ u.route.number = 0 ∧ u.route.load = none ∧ u.dir = [] ∧ u.route.active = s.route.active ∧
    u.route.staged = s.route.staged ∧ u.route.segs = s.route.segs ∧
    u.route.params = s.route.params ∧ u.cap.unjudged = s.cap.unjudged ∧
    (canonical CapSlot.clear s.cap.slots = true → ∀ k,
      u.capSlot k =
        { s.capSlot k with
          unread := (s.capSlot k).unread || s.cap.deferred.any (fun b => b.mark && decide (b.slot = k)) }) ∧
    u.sm.roster = s.sm.roster.filter (fun e => !e.isOpen) ∧ u.cap.deferred = [] ∧ u.cap.judgeQ = s.cap.judgeQ ∧
    u.ins =
      { s.ins with
        outbox :=
          s.ins.outbox ++
            (s.cap.deferred.filter (fun b => b.mark)).map (fun b =>
              (Producer.captureUnit, QWrite.word (captureAddr s.path.areaSel b.slot 15)
                (0xFFFF0024#32 ||| flag b.overrun 8) false)) ++ [(.commandUnit, .respond)] } ∧
    AnswersWith s u status [at_, detail, n.setWidth 32, BitVec.ofNat 32 s.cap.deferred.length]

/-- R133: `c` is what the record of entry `m` takes its reading, reception time and fix from. -/
def RecordSource (m : Meter) (c : Confirmed) : Prop :=
  m.confirmed = some c ∨
    (m.confirmed = none ∧
      ((∃ x, m.window.getLast? = some x ∧ c = ⟨x.reading, x.stamp, x.fix⟩) ∨ (m.window = [] ∧ c = ⟨⟨0, 0⟩, 0, none⟩)))

/-- R133: words 1 to 15 of the record with sequence number `seq` of entry `m`, with its causes and word 13. -/
def meterWords (m : Meter) (c : Confirmed) (seq : Word) (route : Half) (causes : Byte) (word13 : Word) : List Word :=
  [seq,
    route.setWidth 32 ||| (c.reading.unit.setWidth 32 <<< 16) ||| (BitVec.ofNat 32 (m.votes.toNat % 8) <<< 24) |||
      (BitVec.ofNat 32 (min m.repeats.toNat 31) <<< 27),
    m.img.id, c.reading.value.setWidth 32,
    (c.reading.value.extractLsb' 32 16).setWidth 32 ||| (m.img.typeCode.setWidth 32 <<< 16) |||
      (causes.setWidth 32 <<< 24),
    c.stamp, (c.fix.map fun f => f.lat).getD 0, (c.fix.map fun f => f.lon).getD 0,
    (c.fix.map fun f => f.age).getD 0xFFFFFFFF#32,
    (m.best.getD 0).setWidth 32 ||| (((m.learned.map fun l => l.path.hops).getD 0xFF#8).setWidth 32 <<< 8) |||
      ((m.lastCounter.getD 0).setWidth 32 <<< 16),
    (m.learned.map fun l => l.path.hop1).getD 0, (m.learned.map fun l => l.path.hop2).getD 0, word13, 0, 0]

/-- R132: a record header. -/
def recordHeader (kind : Kind) (locked acked : Bool) : Word :=
  0xA5#32 ||| (BitVec.ofNat 32 (kindCode kind) <<< 8) ||| flag locked 16 ||| flag acked 17

/-! ### The scan -/

/-- R149 to R151: the last read of slot `k`, whose words before it are `ws`, has brought `w` with error mark `err`: the
findings `fs`, the working roster `ro` and the highest sequence number `hi` that follow. -/
def SlotDecided (s : State) (k : Nat) (ws : List Word) (w : Word) (err : Bool) (fs : List (Nat × SlotRow))
    (ro : List RosterEntry) (hi : Option Word) : Prop :=
  (err = true ∧ fs = insertAt s.sm.findings k .quarantined ∧ ro = s.sm.workRoster ∧ hi = s.sm.highest) ∨
    (err = false ∧ ∃ w0 w1, ws = [w0, w1] ∧
      ((w0 = 0 ∧ fs = s.sm.findings ∧ ro = s.sm.workRoster ∧ hi = s.sm.highest) ∨
        (w0 ≠ 0 ∧ validHeader w0 w1 w = none ∧ fs = insertAt s.sm.findings k .quarantined ∧ ro = s.sm.workRoster ∧
          hi = s.sm.highest) ∨
        (∃ kind n, w0 ≠ 0 ∧ validHeader w0 w1 w = some kind ∧ n = bits w 0 16 ∧
          hi = some (if s.sm.highest.getD 0 < w1 then w1 else s.sm.highest.getD 0) ∧
          (((∃ e ∈ s.sm.workRoster, e.route = n) ∧
              ro = s.sm.workRoster.map (fun e => if e.route = n then { e with count := e.count + 1 } else e) ∧
              fs =
                insertAt s.sm.findings k (.record ⟨.stored, kind, w1, n, w0.getLsbD 16, w0.getLsbD 17⟩)) ∨
            ((∀ e ∈ s.sm.workRoster, e.route ≠ n) ∧ s.sm.workRoster.length < 16 ∧
              ro = s.sm.workRoster ++ [⟨n, 1, false⟩] ∧
              fs =
                insertAt s.sm.findings k (.record ⟨.stored, kind, w1, n, w0.getLsbD 16, w0.getLsbD 17⟩)) ∨
            ((∀ e ∈ s.sm.workRoster, e.route ≠ n) ∧ 16 ≤ s.sm.workRoster.length ∧ ro = s.sm.workRoster ∧
              fs = insertAt s.sm.findings k .quarantined)))))

/-- R127: slot `k` is to be rebuilt: its record is locked and not acknowledged. -/
def ToRebuild (fs : List (Nat × SlotRow)) (k : Nat) (r : RecRow) : Prop :=
  lookup fs k = some (.record r) ∧ r.locked = true ∧ r.acked = false

/-- R143, R152: the scan has ended in `s`, and `u` follows. -/
def ScanEnded (s u : State) : Prop :=
  u.sm =
      { s.sm with
        slots := s.sm.findings, roster := s.sm.workRoster, scan := .done, findings := [], workRoster := [],
        highest := none } ∧
    u.freeCount = 8192 - s.sm.findings.length ∧
    u.ev = (if 8192 - s.sm.findings.length ≤ 256 then s.ev.occur .storeLow else s.ev) ∧ u.tamper = s.tamper ∧
    u.ins = s.ins ∧ u.store = s.store ∧ u.flt = s.flt ∧ u.route = s.route ∧ u.dir = s.dir

/-! ### Commits on the Command Slot -/

/-- The row of the table that commits command `c`. -/
def hostInstr (c : HostCommand) (h : CmdHeader) : Instr :=
  match c with
  | .routeOpen => .routeOpen h
  | .routeClose => .routeClose h
  | .segmentEnter => .segmentEnter h
  | .segmentLeave => .segmentLeave h
  | .thresholdStage => .thresholdStage h
  | .thresholdNudge => .thresholdNudge h
  | .pollNow => .pollNow h
  | .meterQuery => .meterQuery h
  | .tamperAck => .tamperAck h
  | .uploadBegin => .uploadBegin h
  | .uploadAck => .uploadAck h
  | .uploadAbandon => .uploadAbandon h
  | .eventEnable => .eventEnable h
  | .eventClear => .eventClear h
  | .faultClear => .faultClear h

/-- R25: the parameter copy that a commit of `c` makes: the committed word 0 and the shadow words 1 to 15. -/
def commitParams (c : HostCommand) (h : CmdHeader) (s : State) : List Word :=
  commandWord c h :: (List.range 15).map fun n => getD 0 s.path.shadow (n + 1)

/-- Parameter word `p` as the host has written it (R25). -/
def hostParam (s : State) (p : Nat) : Word := getD 0 s.path.shadow p

/-- R25: the commit is taken and begins a command. -/
abbrev Begins (s : State) : Prop := BusFree s ∧ NotQueued s (commandAddr s.path.areaSel 0) ∧ s.cmd.inFlight = false

/-- R26, R27, R28: the commit begins a command that passes the check byte, code, length and scan checks. -/
abbrev Accepted (c : HostCommand) (h : CmdHeader) (s : State) : Prop :=
  Begins s ∧ s.scanDone = true ∧ h.length.toNat = paramWords c ∧ h.check = checkByte (commitParams c h s)

/-- R5, R22, R25: what every commit of `c` that begins a command has done before its checks: memory and shadow have taken
the word, the flight has begun with its parameter copy, code and tag. -/
def begun (c : HostCommand) (h : CmdHeader) (s : State) : State :=
  { s with
    store := s.store.write (commandAddr s.path.areaSel 0) ⟨commandWord c h, h.parity⟩ allLanes
    path := { s.path with shadow := setD 0 s.path.shadow 0 (commandWord c h), snapshot := none }
    cmd := { s.cmd with inFlight := true, params := commitParams c h s, running := some ⟨codeOf c, h.tag, none⟩ } }

/-- R91: the value of the range from `lo` to `hi` nearest to `x`. -/
def nearest (lo hi x : Int) : Int := max lo (min hi x)

/-! ### Invariants -/

/-- R129, R149: the slot state table and the scan findings name each slot once, in rising order, all below 8192, and the scan
stands at slots below 8192. -/
def SlotForm (s : State) : Prop :=
  risingFrom 0 s.sm.slots = true ∧ (∀ e ∈ s.sm.slots, e.1 < 8192) ∧ risingFrom 0 s.sm.findings = true ∧
    (∀ e ∈ s.sm.findings, e.1 < 8192) ∧ (∀ k ws, s.sm.scan = .slots k ws → k < 8192) ∧
    ∀ l meter, s.sm.scan = .rebuild l meter → ∀ k ∈ l, k < 8192

/-- The sparse data keep their canonical form: the store (Memory.wf), the shadow words, the TX slot states, and the slot state
table with the scan findings. -/
def DataInv (s : State) : Prop :=
  Memory.wf s.store = true ∧ canonical 0 s.path.shadow = true ∧ canonical TxState.free s.poll.tx = true ∧ SlotForm s

/-- R10, R16: the Insert Queue holds at most 64 entries; the throttle mark is set from 48 entries on and clear at 32 or
below; a producer waits only beside at least 63 entries (log entry 36). -/
def QueueInv (s : State) : Prop :=
  s.ins.entries.length ≤ 64 ∧ (48 ≤ s.ins.entries.length → s.ins.throttle = true) ∧
    (s.ins.entries.length ≤ 32 → s.ins.throttle = false) ∧ (s.ins.waits ≠ [] → 63 ≤ s.ins.entries.length)

/-- R62, R46: the Judge Queue holds at most 16 bursts, the Deferred List at most 64; the capture slots' marks keep their
canonical form. -/
def CaptureInv (s : State) : Prop :=
  canonical CapSlot.clear s.cap.slots = true ∧ s.cap.judgeQ.length ≤ 16 ∧ s.cap.deferred.length ≤ 64

/-- R118, R144, R148: the Tamper List holds at most 128 entries, the rosters at most 16. -/
def ListInv (s : State) : Prop :=
  s.tamper.list.length ≤ 128 ∧ s.sm.roster.length ≤ 16 ∧ s.sm.workRoster.length ≤ 16

/-- R165, R166: a batch holds 1 to 512 records, and no batch id is 0. -/
def BatchInv (s : State) : Prop :=
  s.up.nextId ≠ 0 ∧ ∀ b, s.up.batch = some b → 1 ≤ b.items.length ∧ b.items.length ≤ 512 ∧ b.id ≠ 0

/-- R165: a slot is IN_BATCH exactly when the batch lists it, and the batch lists no slot twice; during the start-up scan there
is no batch, and what the scan has found is STORED. -/
def BatchLaw (s : State) : Prop :=
  (∀ k, (∃ r, s.rowOf k = some r ∧ r.state = .inBatch) ↔ ∃ b, s.up.batch = some b ∧ ∃ it ∈ b.items, it.slot = k) ∧
    (∀ b, s.up.batch = some b → (b.items.map fun it => it.slot).Nodup) ∧
    (s.sm.scan ≠ .done → s.up.batch = none) ∧ ∀ e ∈ s.sm.findings, ∀ r, e.2 = .record r → r.state = .stored

/-- R92: the Poll List holds no meter twice and at most 8 entries in flight; a meter is POLLING exactly while the list holds an
entry for it; outside OPEN the list is empty.  R37, R39: a load is under way in NO_ROUTE before it has read the route number,
and in LOADING from then on. -/
def PollInv (s : State) : Prop :=
  (s.poll.list.map fun e => e.index).Nodup ∧ s.inFlightCount ≤ 8 ∧
    (∀ i, (∃ e ∈ s.poll.list, e.index = i) ↔ ∃ m, s.dir[i]? = some m ∧ m.state = .polling) ∧
    (s.route.state ≠ .opened → s.poll.list = []) ∧
    ∀ l, s.route.load = some l → s.route.state = if l = .number then .noRoute else .loading

/-- R95, R187, R191: the ring position is 0 to 31, a pulse has at most 32 cycles left, the detector stands at most at
4096. -/
def CounterInv (s : State) : Prop := s.poll.ringPos < 32 ∧ s.ev.pulse.left ≤ 32 ∧ s.flt.detector ≤ 4096

end Sys2Proof.Machine
end

