-- ==== Sys2Proof/Certificates/Slice0/Obligations.lean ====
section
/-! DEFINITION. The statements for the provers.  A statement that ends in `.next (finish s u)` gives the next state whole:
`u` is `s` with the changes the rule names and the writes given (in `ins.outbox`), and `finish` changes the Insert Queue's
part alone (Obligations.FinishChangesOnlyTheInsertQueue). -/

section Slice0

open Sys2Proof Sys2Proof.Machine

/-! ### The machine -/

/-- A step takes the command at the front of the queue and runs it on the rest. -/
def Obligations.StepRunsTheFrontCommand : Prop :=
  ∀ (c : Instr) (rest : List Instr) (s : State),
    step { s with pending := c :: rest } = exec c { s with pending := rest }

/-- Log entry 5 (DESIGN CHOICE): on an empty queue one BCLK edge passes; R186, R187, R193 say what it does. -/
def Obligations.EmptyQueuePassesOneBclkEdge : Prop :=
  ∀ s : State, Awake s → s.pending = [] →
    ∃ t, step s = .next t ∧ t.pending = [] ∧ StoreKept s t ∧ t.ev.lastSample = some s.ev.sleepPin ∧
      t.ev.pulse.left = (if s.ev.pulse.requested then 32 else s.ev.pulse.left - 1) ∧
      (s.flt.detector + 1 < 4096 → t.flt = { s.flt with detector := s.flt.detector + 1 }) ∧
      (4096 ≤ s.flt.detector + 1 → t.flt = { s.flt with detector := 4096, clockLost := true }) ∧
      t.clk = s.clk ∧ t.dir = s.dir ∧ t.sm = s.sm

/-- Log entry 20: every command has a next state, and none touches the queue of waiting commands. -/
def Obligations.EveryCommandHasANextState : Prop :=
  ∀ (c : Instr) (s : State), ∃ t, exec c s = .next t ∧ t.pending = s.pending

/-- The end of an event changes the Insert Queue's part alone and leaves nothing ungiven. -/
def Obligations.FinishChangesOnlyTheInsertQueue : Prop :=
  ∀ s t : State, ∃ i : Inserts, finish s t = { t with ins := i } ∧ i.outbox = []

/-- R10: the writes an event gives join at the tail, in order, while places are free and no producer waits.
R10: the producer that began to wait first gains a freed place for one write; its later writes wait behind
(log entry 11).
R20: an event gives a status write of each Status Page word whose value it has changed, and of no other; one that has waited
for a place takes the word's value current when it joins. -/
def Obligations.WritesJoinTheQueueInOrder : Prop :=
  (∀ (s t : State) (ws : List (Producer × Nat × Word)),
      changedStatus s t = [] → t.ins.waits = [] → t.ins.heldBody = none → t.ins.laterLocks = [] → t.ins.ackFifo = [] →
      t.ins.outbox = ws.map (fun w => (w.1, QWrite.word w.2.1 w.2.2 false)) →
      t.ins.entries.length + ws.length ≤ 64 →
      (finish s t).ins.entries = t.ins.entries ++ ws.map (fun w => ⟨w.2.1, w.2.2, w.1, false⟩) ∧
        (finish s t).ins.waits = []) ∧
  (∀ (p : Producer) (a : Nat) (data : Word) (notify : Bool) (others : List (Producer × List QWrite)) (s : State),
      Awake s → s.ins.entries.length < 64 →
      (s.ins.waits = (p, [.word a data notify]) :: others →
        exec .insertQueueJoin s =
          .next (finish s
            { s with
              ins := { s.ins.withEntries (s.ins.entries ++ [⟨a, data, p, notify⟩]) with waits := others } })) ∧
        (∀ b x n qs, s.ins.waits = (p, .word a data notify :: .word b x n :: qs) :: others →
          exec .insertQueueJoin s =
            .next (finish s
              { s with
                ins :=
                  { s.ins.withEntries (s.ins.entries ++ [⟨a, data, p, notify⟩]) with
                    waits := others ++ [(p, .word b x n :: qs)] } }))) ∧
  (∀ (s t : State) (n : Nat), n ∈ changedStatus s t ↔ n < 32 ∧ statusWord s n ≠ statusWord t n) ∧
  (∀ (s t : State) (ws : List (Producer × Nat × Word)) (n a : Nat),
      t.ins.heldBody = none → t.ins.laterLocks = [] → t.ins.ackFifo = [] →
      t.ins.outbox = ws.map (fun w => (w.1, QWrite.word w.2.1 w.2.2 false)) →
      (∀ w ∈ ws, ∀ j, j < 32 → w.2.1 ≠ statusAddr t.path.areaSel j) → n < 32 → a = statusAddr t.path.areaSel n →
      (statusWord s n ≠ statusWord t n →
        (∃ e, (finish s t).ins.newest a = some e ∧ e.data = statusWord t n) ∨
          ∃ w ∈ (finish s t).ins.waits, w.1 = .pathUnit ∧ QWrite.status n ∈ w.2) ∧
        (statusWord s n = statusWord t n →
          (finish s t).ins.entries.filter (fun e => decide (e.addr = a)) =
            t.ins.entries.filter (fun e => decide (e.addr = a)))) ∧
  (∀ (n : Nat) (others : List (Producer × List QWrite)) (s : State), Awake s → s.ins.entries.length < 64 →
      s.ins.waits = (.pathUnit, [.status n]) :: others →
      exec .insertQueueJoin s =
        .next (finish s
          { s with
            ins :=
              { s.ins.withEntries
                  (s.ins.entries ++ [⟨statusAddr s.path.areaSel n, statusWord s n, .pathUnit, false⟩]) with
                waits := others } }))

/-- R10, R11: a Status Page write replaces the data of the newest entry of its word, which keeps its place; with no
entry for its word it joins at the tail. -/
def Obligations.StatusWritesCoalesceOrJoin : Prop :=
  (∀ (i : Inserts) (sel : BitVec 3) (n : Nat) (v : Word) (pre post : List QEntry) (e : QEntry),
      i.entries = pre ++ e :: post → e.addr = statusAddr sel n → (∀ x ∈ post, x.addr ≠ statusAddr sel n) →
      i.giveStatus sel n v = { i with entries := pre ++ { e with data := v } :: post }) ∧
  (∀ (i : Inserts) (sel : BitVec 3) (n : Nat) (v : Word),
      (∀ x ∈ i.entries, x.addr ≠ statusAddr sel n) → i.waits = [] → i.entries.length < 64 →
      (i.giveStatus sel n v).entries = i.entries ++ [⟨statusAddr sel n, v, .pathUnit, false⟩])

/-- R3, R12: a word written with all byte enables reads back, and every other byte and parity bit stays.
R3: a write changes the enabled bytes alone, each with its parity bit.  A word is its four bytes, the least significant first. -/
def Obligations.StoreReadsBackWhatWasWritten : Prop :=
  (∀ (st : Store) (a : Nat) (w : BusWord), Memory.wf st = true →
    (st.write a w allLanes).word a = w.data ∧ (st.write a w allLanes).parity a = w.parity ∧
      ∀ x, x < a ∨ a + 4 ≤ x →
        (st.write a w allLanes).byte x = st.byte x ∧ (st.write a w allLanes).parityBit x = st.parityBit x) ∧
  (∀ (st : Store) (a : Nat) (w : BusWord) (be : BitVec 4), Memory.wf st = true →
    (∀ i, i < 4 →
      (st.write a w be).byte (a + i) = (if be.getLsbD i then w.data.extractLsb' (8 * i) 8 else st.byte (a + i)) ∧
        (st.write a w be).parityBit (a + i) = (if be.getLsbD i then w.parity.getLsbD i else st.parityBit (a + i))) ∧
      ∀ x, x < a ∨ a + 4 ≤ x →
        (st.write a w be).byte x = st.byte x ∧ (st.write a w be).parityBit x = st.parityBit x) ∧
  (∀ (st : Store) (a i : Nat), i < 4 →
    (st.word a).extractLsb' (8 * i) 8 = st.byte (a + i) ∧ (st.parity a).getLsbD i = st.parityBit (a + i))

/-- The frame of the store for every command: only the word at the command's computed address may change. -/
def Obligations.CommandsStoreOnlyAtTheirAddress : Prop :=
  ∀ (c : Instr) (s t : State), exec c s = .next t →
    ∀ x, (∀ a, storeTarget s c = some a → x < a ∨ a + 4 ≤ x) → ByteKept s t x

/-! ### Invariants -/

/-- Every step keeps the canonical form of the store, the shadow words and the TX slot states, and the slot state table and
the scan's findings rising and below slot 8192. -/
def Obligations.StepKeepsTheDataForm : Prop := ∀ s t : State, DataInv s → step s = .next t → DataInv t

/-- Every step keeps the Insert Queue within 64 entries, the throttle mark where R16 puts it, and a producer waiting only beside
a queue of at least 63 entries (log entry 36).
R180: so while a producer waits no upstream access is taken, and the release event of an UPLOAD_ACK finds every header write
given before it in the queue. -/
def Obligations.StepKeepsTheQueueBounds : Prop :=
  (∀ s t : State, QueueInv s → step s = .next t → QueueInv t) ∧
  (∀ s : State, QueueInv s → s.ins.throttle = false → s.ins.waits = [])

/-- Every step keeps the Judge Queue within 16 bursts and the Deferred List within 64, and the
capture slots' marks in canonical form. -/
def Obligations.StepKeepsTheCaptureBounds : Prop := ∀ s t : State, CaptureInv s → step s = .next t → CaptureInv t

/-- Every step keeps the Tamper List within 128 entries and the rosters within 16, and keeps the ring position, the pulse
and the detector in their ranges.
R92: every step keeps the Poll List without a meter twice and with at most 8 entries in flight, and a meter POLLING exactly
while the list holds it. -/
def Obligations.StepKeepsTheListAndCounterBounds : Prop :=
  (∀ s t : State, ListInv s → step s = .next t → ListInv t) ∧
  (∀ s t : State, CounterInv s → step s = .next t → CounterInv t) ∧
  (∀ s t : State, PollInv s → step s = .next t → PollInv t)

/-- Every step keeps a batch at 1 to 512 records with an id that is not 0.
R165: every step keeps the slots IN_BATCH those that the batch lists, each once. -/
def Obligations.StepKeepsTheBatchBounds : Prop :=
  (∀ s t : State, BatchInv s → step s = .next t → BatchInv t) ∧
  (∀ s t : State, DataInv s → BatchLaw s → step s = .next t → BatchLaw t)

/-- The state after reset satisfies every invariant. -/
def Obligations.ResetMeetsTheInvariants : Prop :=
  DataInv State.reset ∧ QueueInv State.reset ∧ CaptureInv State.reset ∧ ListInv State.reset ∧ BatchInv State.reset ∧
    CounterInv State.reset ∧ PollInv State.reset ∧ BatchLaw State.reset

/-! ### Reset (R17) -/

/-- R17, R20 and the reset values of every block: POWER_ON in every state, RESET_N_RELEASED while RESET_N is asserted.
R15: the queued write goes first.  R186: no level has been taken.  R147: nothing composed is held back.
That POWER_ON is taken in every state and RESET_N_RELEASED only while RESET_N is asserted is log entry 18 (DEDUCED). -/
def Obligations.ResetGivesTheResetState : Prop :=
  ∀ (sel : BitVec 3) (s : State),
    ∃ t, exec (.powerOn sel) s = .next t ∧ (s.path.resetAsserted = true → exec (.resetNReleased sel) s = .next t) ∧
      StoreKept s t ∧ t.path.resetAsserted = false ∧ t.path.areaSel = sel ∧ t.path.shadow = [] ∧
      t.path.snapshot = none ∧ t.path.held = none ∧ t.path.blockedCount = 0 ∧ t.path.blockedAddr = 0 ∧
      t.path.blockedReason = .none ∧
      t.ins.entries = (List.range 32).map (fun n =>
        ⟨sel.toNat * 0x200000 + 0x80 + 4 * n, if n = 2 then 0xFFFF#32 else 0, .pathUnit, false⟩) ∧
      t.ins.waits = [] ∧ t.ins.throttle = false ∧ t.ins.resp0 = false ∧ t.ins.heldBody = none ∧ t.ins.laterLocks = [] ∧
      t.ins.ackFifo = [] ∧ t.path.lastGrant = .insertedRead ∧ t.cmd = ⟨false, false, [], none⟩ ∧ t.clk = ⟨0, 0⟩ ∧
      t.cap = ⟨[], [], [], none, 0, 0, 0, 0, 0, 0⟩ ∧ t.dir = [] ∧ t.route.state = .noRoute ∧ t.route.number = 0 ∧
      t.route.params = ⟨0, 0, 0, 0, 0, 0, 0, 0⟩ ∧ t.route.segs = [] ∧ t.route.activeSeg = none ∧
      t.route.active = ⟨0, 0, 0, 0⟩ ∧ t.route.staged = ⟨0, 0, 0, 0⟩ ∧ t.route.missed = 0 ∧ t.route.load = none ∧
      t.poll = ⟨[], 0, [], 0, 0, 0⟩ ∧ t.tamper = ⟨[], 0, 0⟩ ∧ t.sm = ⟨[], [], [], 0, .slots 0 [], [], [], none⟩ ∧
      t.up = ⟨none, 1, 0⟩ ∧ t.ev.marks = 0 ∧ t.ev.notify = 0 ∧ t.ev.wake = 0 ∧ t.ev.asleep = false ∧
      t.ev.settled = false ∧ t.ev.lastSample = none ∧ t.ev.pulse = ⟨false, 0⟩ ∧ t.flt = ⟨false, false, 0, 0⟩ ∧ t.alert = false

/-- R17, R33, R107, R164, R182, R187, R191: what the assertion of RESET_N ends at once (log entry 17).
R17: while RESET_N is asserted no command but the reset commands has an effect. -/
def Obligations.ResetAssertionStopsThePart : Prop :=
  (∀ s : State, ∃ t, exec .resetNAsserted s = .next t ∧ StoreKept s t ∧ t.path.resetAsserted = true ∧ t.cwait = true ∧
      t.ins.entries = [] ∧ t.ins.waits = [] ∧ t.path.held = none ∧ t.cmd.inFlight = false ∧ t.cmd.running = none ∧
      t.route.load = none ∧ t.faultLatched = false ∧ t.alert = false ∧ t.wakeHigh = false ∧ t.up = ⟨none, 1, 0⟩ ∧
      t.poll.list = [] ∧ t.dir = [] ∧ t.sm.backlog = [] ∧ t.route.state = .noRoute) ∧
  (∀ (c : Instr) (s : State), s.path.resetAsserted = true → isResetCommand c = false → exec c s = .next s)

/-! ### The Path Unit -/

/-- R3, R22: a write to plain memory, to the image outside LOADING, to record words 14 and 15 that are not blocked, and to TX
word 7 with partial enables passes as it came.
R5: a write to a shadowed word that is neither a commit nor an arming passes too, and the shadow takes its enabled bytes.
R3, R13, R18, R22: a read that no unit acts on is answered from the queue or by the store.  All end a snapshot.
R14: an upstream write removes the queued entries of its word and is then treated as if nothing had been queued.
R65: a cancelled final verdict clears the slot's unread mark; what was judged stands.
R100: a cancelled READY withdraws the frame: the TX slot is FREE and its entry QUEUED again without a path. -/
def Obligations.PlainAccessesPass : Prop :=
  (∀ (addr : Word) (w : BusWord) (be : BitVec 4) (win : Window) (s : State),
      BusFree s → win = windowOf s.path.areaSel (accessAddr addr) → NotQueued s (accessAddr addr) →
      ((win = .plain ∨ ((∃ n, win = .image n) ∧ s.route.state ≠ .loading) ∨
          ((∃ k n, win = .record k n) ∧ blockReason s win = none) ∨ ((∃ k, win = .tx k 7) ∧ be ≠ allLanes)) →
        exec (.upstreamWrite addr w be) s = .next (finish s (written (accessAddr addr) w be s))) ∧
        (∀ n, win = .command n → (n ≠ 0 ∨ be ≠ allLanes) →
          exec (.upstreamWrite addr w be) s = .next (finish s (shadowed n (accessAddr addr) w be s))) ∧
        (∀ n, win = .position n → (n ≠ 3 ∨ be ≠ allLanes) →
          exec (.upstreamWrite addr w be) s = .next (finish s (shadowed (24 + n) (accessAddr addr) w be s))) ∧
        (∀ k n, win = .capture k n → n ≠ 0 → (n ≠ 15 ∨ be ≠ allLanes) →
          exec (.upstreamWrite addr w be) s =
            .next (finish s (shadowed (4096 + 16 * k + n) (accessAddr addr) w be s)))) ∧
  (∀ (old new : Word) (be : BitVec 4) (i : Nat), i < 4 →
      (mergeBytes old new be).extractLsb' (8 * i) 8 =
        if be.getLsbD i then new.extractLsb' (8 * i) 8 else old.extractLsb' (8 * i) 8) ∧
  (∀ (addr : Word) (be : BitVec 4) (d : Disturb) (win : Window) (w : BusWord) (s : State),
      BusFree s → win = windowOf s.path.areaSel (accessAddr addr) → (∀ n, win ≠ .status n) →
      (∀ k, win ≠ .capture k 15) → (∀ k n, win ≠ .record k n) → Answers s (accessAddr addr) d w →
      exec (.upstreamRead addr be d) s = .next (finish s (answered (accessAddr addr) w s))) ∧
  (∀ (addr : Word) (w : BusWord) (be : BitVec 4) (s : State), BusFree s →
      (∃ e ∈ s.ins.entries, e.addr = accessAddr addr) → windowOf s.path.areaSel (accessAddr addr) = .plain →
      exec (.upstreamWrite addr w be) s =
        .next (finish s { written (accessAddr addr) w be s with ins := dequeued (accessAddr addr) s })) ∧
  (∀ (addr : Word) (k : BitVec 8) (a : Nat) (w : BusWord) (be : BitVec 4) (s : State), BusFree s →
      a = captureAddr s.path.areaSel k.toNat 15 → accessAddr addr = a → (∃ e ∈ s.ins.entries, e.addr = a) →
      canonical CapSlot.clear s.cap.slots = true → ((s.capSlot k.toNat).armed = false ∨ be ≠ allLanes) →
      ∃ u, exec (.upstreamWrite addr w be) s = .next (finish s u) ∧ u.ins = dequeued a s ∧
        u.store = s.store.write a w be ∧ u.path = (shadowed (4096 + 16 * k.toNat + 15) a w be s).path ∧
        u.capSlot k.toNat =
          { s.capSlot k.toNat with
            unread :=
              (s.capSlot k.toNat).unread &&
                s.ins.entries.all (fun e => !(decide (e.addr = a) && isFinalVerdict e.data)) } ∧
        (∀ j, j ≠ k.toNat → u.capSlot j = s.capSlot j) ∧ u.cap.judgeQ = s.cap.judgeQ ∧
        u.cap.deferred = s.cap.deferred ∧ u.dir = s.dir ∧ u.sm = s.sm ∧ u.poll = s.poll ∧ u.tamper = s.tamper ∧
        u.ev = s.ev) ∧
  (∀ (addr : Word) (k : BitVec 5) (a : Nat) (w : BusWord) (be : BitVec 4) (e : QEntry) (s : State), BusFree s →
      a = txAddr s.path.areaSel k.toNat 7 → accessAddr addr = a →
      s.ins.entries.filter (fun x => decide (x.addr = a)) = [e] → e.data = 0x0000A001#32 →
      canonical TxState.free s.poll.tx = true →
      ∃ u, exec (.upstreamWrite addr w be) s = .next (finish s u) ∧ u.ins = dequeued a s ∧
        u.store = s.store.write a w be ∧ u.txState k.toNat = .free ∧
        (∀ j, j ≠ k.toNat → u.txState j = s.txState j) ∧
        (∀ x, inRingAt s k.toNat = some x →
          u.poll.list =
            s.poll.list.map (fun y => if y.index = x.index then { y with sub := .queued, path := none } else y)) ∧
        (inRingAt s k.toNat = none → u.poll.list = s.poll.list) ∧ u.poll.sent = s.poll.sent ∧ u.dir = s.dir ∧
        u.sm = s.sm ∧ u.cap = s.cap ∧ u.ev = s.ev)

/-- R8: which writes are blocked, and the reason, for every window.
R8, R9: a blocked write reaches nothing; it is counted, recorded and raises BLOCKED. -/
def Obligations.BlockedWritesAreDroppedAndReported : Prop :=
  (∀ (addr : Word) (w : BusWord) (be : BitVec 4) (reason : BlockReason) (s : State),
      BusFree s → blockReason s (windowOf s.path.areaSel (accessAddr addr)) = some reason →
      ∃ u : State,
        u = { s with
              path :=
                { s.path with
                  snapshot :=
                    if (windowOf s.path.areaSel (accessAddr addr)).isStatus then s.path.snapshot else none
                  blockedCount := if s.path.blockedCount = 0xFFFF#16 then 0xFFFF#16 else s.path.blockedCount + 1
                  blockedAddr := BitVec.ofNat 32 (accessAddr addr)
                  blockedReason := reason }
              ev := s.ev.occur .blocked } ∧
          exec (.blockedWrite addr w be) s = .next (finish s u) ∧ exec (.upstreamWrite addr w be) s = .next (finish s u)) ∧
  (∀ (s : State) (k w : Nat),
      blockReason s (.response w) = some .partWord ∧ blockReason s (.status w) = some .partWord ∧
        blockReason s (.manifest w) = some .partWord ∧
        blockReason s (.tx k w) = (if w ≤ 6 then some .partWord else none) ∧
        (w ≤ 13 → blockReason s (.record k w) = some .recordBody) ∧
        (14 ≤ w → s.slotState k = .inBatch → blockReason s (.record k w) = some .slotInBatch) ∧
        (14 ≤ w → s.slotState k ∈ [SlotState.unscanned, .quarantined, .free, .writing] →
          blockReason s (.record k w) = some .slotNotStored) ∧
        (14 ≤ w → s.slotState k = .stored → ∀ r, s.rowOf k = some r →
          blockReason s (.record k w) = if r.locked then some .slotLocked else none) ∧
        blockReason s (.image w) = (if s.route.state = .loading then some .imageLoading else none) ∧
        blockReason s (.command w) = none ∧ blockReason s (.position w) = none ∧ blockReason s (.capture k w) = none ∧
        blockReason s .plain = none)

/-- R2: every word of a window lies in that window, at the offset the table gives; the other offsets of the Part Area and
everything outside it are plain memory. -/
def Obligations.WindowsFollowTheTable : Prop :=
  (∀ (sel : BitVec 3) (k w : Nat),
    (w < 16 → windowOf sel (commandAddr sel w) = .command w) ∧ (w < 8 → windowOf sel (responseAddr sel w) = .response w) ∧
      (w < 4 → windowOf sel (positionAddr sel w) = .position w) ∧ (w < 32 → windowOf sel (statusAddr sel w) = .status w) ∧
      (k < 32 → w < 8 → windowOf sel (txAddr sel k w) = .tx k w) ∧
      (w < 1028 → windowOf sel (manifestAddr sel w) = .manifest w) ∧
      (k < 256 → w < 16 → windowOf sel (captureAddr sel k w) = .capture k w) ∧
      (w < 32784 → windowOf sel (imageAddr sel w) = .image w) ∧
      (k < 8192 → w < 16 → windowOf sel (recordAddr sel k w) = .record k w)) ∧
  (∀ (sel : BitVec 3) (base k w : Nat), base = sel.toNat * 0x200000 →
      commandAddr sel w = base + 4 * w ∧ responseAddr sel w = base + 0x40 + 4 * w ∧
        positionAddr sel w = base + 0x60 + 4 * w ∧ statusAddr sel w = base + 0x80 + 4 * w ∧
        txAddr sel k w = base + 0x1000 + 32 * k + 4 * w ∧ manifestAddr sel w = base + 0x2000 + 4 * w ∧
        manifestEntryAddr sel k w = base + 0x2010 + 8 * k + 4 * w ∧
        captureAddr sel k w = base + 0x4000 + 64 * k + 4 * w ∧ imageAddr sel w = base + 0x10000 + 4 * w ∧
        entryAddr sel k w = base + 0x10040 + 32 * k + 4 * w ∧ recordAddr sel k w = base + 0x40000 + 64 * k + 4 * w) ∧
  (∀ (sel : BitVec 3) (base off : Nat), base = sel.toNat * 0x200000 →
      ((0x70 ≤ off ∧ off < 0x80) ∨ (0x100 ≤ off ∧ off < 0x1000) ∨ (0x1400 ≤ off ∧ off < 0x2000) ∨
          (0x3010 ≤ off ∧ off < 0x4000) ∨ (0x8000 ≤ off ∧ off < 0x10000) ∨ (0x30040 ≤ off ∧ off < 0x40000) ∨
          (0xC0000 ≤ off ∧ off < 0x200000) →
        windowOf sel (base + off) = .plain) ∧
      (off < base ∨ base + 0x200000 ≤ off → windowOf sel off = .plain))

/-- R16, R63: while the throttle mark is set an arriving access is held, wherever its address lies; a held access is taken,
as if it had arrived at that moment, when its hold has ended.
R15: from then on it has the port: neither a queued write nor an inserted read that needs the store comes before it. -/
def Obligations.HeldAccessesAreTakenWhenTheHoldEnds : Prop :=
  (∀ (addr : Word) (w : BusWord) (be : BitVec 4) (d : Disturb) (s : State),
      Awake s → s.path.held = none → s.ins.throttle = true →
      exec (.upstreamWrite addr w be) s =
          .next (finish s { s with path := { s.path with held := some ⟨.write (accessAddr addr) w be, .throttle⟩ } }) ∧
        exec (.upstreamRead addr be d) s =
          .next (finish s { s with path := { s.path with held := some ⟨.read (accessAddr addr) be d, .throttle⟩ } })) ∧
  (∀ (addr : Word) (w : BusWord) (be : BitVec 4) (d : Disturb) (s : State), Awake s → s.ins.throttle = false →
      (s.path.held = some ⟨.write (accessAddr addr) w be, .throttle⟩ →
        ∃ t, exec .throttleHoldEnd s = .next t ∧
          exec (.upstreamWrite addr w be) { s with path := { s.path with held := none } } = .next t) ∧
        (s.path.held = some ⟨.read (accessAddr addr) be d, .throttle⟩ →
          ∃ t, exec .throttleHoldEnd s = .next t ∧
            exec (.upstreamRead addr be d) { s with path := { s.path with held := none } } = .next t)) ∧
  (∀ (k : BitVec 8) (w : BusWord) (s : State), Awake s → s.ins.throttle = false → s.cap.judgeQ.length < 16 →
      s.path.held = some ⟨.write (captureAddr s.path.areaSel k.toNat 15) w allLanes, .judgeQueue⟩ →
      ∃ t, exec .heldCaptureCommitTaken s = .next t ∧
        exec (.captureCommit k w) { s with path := { s.path with held := none } } = .next t) ∧
  (∀ s : State, heldDue s = true ↔
      ∃ h, s.path.held = some h ∧ s.ins.throttle = false ∧ (h.reason = .throttle ∨ s.cap.judgeQ.length < 16)) ∧
  (∀ (s : State) (d : Disturb), heldDue s = true →
      exec .insertIssue s = .next s ∧
        (∀ a, nextRead s = some a → s.ins.newest a = none →
          ∀ c ∈ [Instr.scanRead d, .scanRebuildRead d, .routeNumberRead d, .headerRead d, .entryRead d, .buildRead d],
            exec c s = .next s))

/-- R21: a read of Status Page word 0 takes the 32 current values and is answered with word 0.
R22: words 1 to 31 come from the snapshot while one is active, and otherwise from the queue or from memory.
R21, chapter 12.10: what the 32 words hold. -/
def Obligations.StatusReadsAreCoherent : Prop :=
  (∀ s : State, (List.range 32).map (statusWord s) = statusTable s) ∧
  (∀ (be : BitVec 4) (s : State), BusFree s →
      exec (.statusSnapshotRead be) s =
        .next (finish s
          { s with
            path :=
              { s.path with
                snapshot := some ((List.range 32).map (statusWord s))
                answer := some ⟨statusAddr s.path.areaSel 0, statusWord s 0, evenParity (statusWord s 0)⟩ } })) ∧
  (∀ (n : BitVec 5) (be : BitVec 4) (d : Disturb) (s : State), BusFree s → n ≠ 0 →
      (∀ latch, s.path.snapshot = some latch →
        exec (.statusWordRead n be d) s =
          .next (finish s
            { s with
              path :=
                { s.path with
                  snapshot := if n = 31 then none else some latch
                  answer :=
                    some ⟨statusAddr s.path.areaSel n.toNat, latch.getD n.toNat 0, evenParity (latch.getD n.toNat 0)⟩ } })) ∧
        (∀ e, s.path.snapshot = none → s.ins.newest (statusAddr s.path.areaSel n.toNat) = some e →
          exec (.statusWordRead n be d) s =
            .next (finish s
              { s with
                path :=
                  { s.path with answer := some ⟨statusAddr s.path.areaSel n.toNat, e.data, evenParity e.data⟩ } })) ∧
        (s.path.snapshot = none → s.ins.newest (statusAddr s.path.areaSel n.toNat) = none →
          exec (.statusWordRead n be d) s =
            .next (finish s
              { s with
                path :=
                  { s.path with
                    answer :=
                      some
                        ⟨statusAddr s.path.areaSel n.toNat, s.store.word (statusAddr s.path.areaSel n.toNat) ^^^ d.data,
                          s.store.parity (statusAddr s.path.areaSel n.toNat) ^^^ d.parity⟩ } })))

/-! ### Commands: the common checks (chapter 2) -/

/-- R30: a commit taken while a command is in flight is dropped and marks the collision. -/
def Obligations.CommitInFlightMarksACollision : Prop :=
  ∀ (w : BusWord) (s : State),
    BusFree s → NotQueued s (commandAddr s.path.areaSel 0) → s.cmd.inFlight = true →
    exec (.commitCollision w) s =
      .next (finish s
        { s with
          store := s.store.write (commandAddr s.path.areaSel 0) w allLanes
          path := { s.path with shadow := setD 0 s.path.shadow 0 w.data, snapshot := none }
          cmd := { s.cmd with collision := true } })

/-- R26, R27, R28: the checks end a command with BAD_CRC, BAD_LENGTH or, during the scan, WRONG_STATE.
R27: a commit whose code is none of the table's comes by UPSTREAM_WRITE and ends with BAD_CODE.
R26: the bytes the check byte covers, and its computation.  R27: the table.  Chapter 12.8: Command Slot word 0. -/
def Obligations.CommonChecksRefuse : Prop :=
  (∀ (c : HostCommand) (h : CmdHeader) (s : State), Begins s →
      (h.check ≠ checkByte (commitParams c h s) →
        exec (hostInstr c h) s = .next (finish s (respond 0x10#8 [] (begun c h s)))) ∧
        (h.check = checkByte (commitParams c h s) → h.length.toNat ≠ paramWords c →
          exec (hostInstr c h) s = .next (finish s (respond 0x12#8 [] (begun c h s)))) ∧
        (h.check = checkByte (commitParams c h s) → h.length.toNat = paramWords c → s.scanDone = false →
          exec (hostInstr c h) s = .next (finish s (respond 0x14#8 [] (begun c h s))))) ∧
  (∀ (addr : Word) (w : BusWord) (ps : List Word) (s : State), Begins s →
      accessAddr addr = commandAddr s.path.areaSel 0 → canonical 0 s.path.shadow = true →
      ps = w.data :: ((List.range 15).map fun n => getD 0 s.path.shadow (n + 1)) →
      checkByte ps = bits w.data 24 8 → (∀ c : HostCommand, codeOf c ≠ bits w.data 8 8) →
      exec (.upstreamWrite addr w allLanes) s =
        .next (finish s
          (respond 0x11#8 []
            { shadowed 0 (commandAddr s.path.areaSel 0) w allLanes s with
              cmd :=
                { s.cmd with
                  inFlight := true, params := ps, running := some ⟨bits w.data 8 8, bits w.data 16 8, none⟩ } }))) ∧
  (∀ (ps : List Word) (w0 : Word) (n : Nat), w0 = ps.getD 0 0 →
      n = (if (w0.extractLsb' 0 8).toNat ≤ 15 then (w0.extractLsb' 0 8).toNat else 15) →
      checkByte ps =
        ((((List.range n).map fun k => ps.getD (k + 1) 0).flatMap fun x =>
            [x.extractLsb' 0 8, x.extractLsb' 8 8, x.extractLsb' 16 8, x.extractLsb' 24 8]) ++
          [w0.extractLsb' 0 8, w0.extractLsb' 8 8, w0.extractLsb' 16 8]).foldl
          (fun c b => (fun y : Byte => if y.msb then (y <<< 1) ^^^ 0x2F#8 else y <<< 1)^[8] (c ^^^ b)) 0xFF#8) ∧
  (hostCommands.map (fun c => (c, codeOf c, paramWords c)) =
      [(.routeOpen, 0x01#8, 0), (.routeClose, 0x02#8, 0), (.segmentEnter, 0x03#8, 1), (.segmentLeave, 0x04#8, 0),
        (.thresholdStage, 0x05#8, 4), (.thresholdNudge, 0x06#8, 2), (.pollNow, 0x07#8, 1), (.meterQuery, 0x08#8, 1),
        (.tamperAck, 0x10#8, 1), (.uploadBegin, 0x20#8, 1), (.uploadAck, 0x21#8, 2), (.uploadAbandon, 0x22#8, 1),
        (.eventEnable, 0x30#8, 2), (.eventClear, 0x31#8, 1), (.faultClear, 0x32#8, 0)] ∧
    ∀ c : HostCommand, c ∈ hostCommands) ∧
  (∀ (c : HostCommand) (h : CmdHeader),
      (commandWord c h).extractLsb' 0 8 = h.length ∧ (commandWord c h).extractLsb' 8 8 = codeOf c ∧
        (commandWord c h).extractLsb' 16 8 = h.tag ∧ (commandWord c h).extractLsb' 24 8 = h.check)

/-! ### Commands: events and faults -/

/-- R188. -/
def Obligations.EventEnableSetsBothMasks : Prop :=
  ∀ (h : CmdHeader) (s : State), Accepted .eventEnable h s →
    ((bits (hostParam s 1) 9 23 ≠ 0 ∨ bits (hostParam s 2) 9 23 ≠ 0) →
      exec (.eventEnable h) s = .next (finish s (respond 0x13#8 [] (begun .eventEnable h s)))) ∧
      (bits (hostParam s 1) 9 23 = 0 → bits (hostParam s 2) 9 23 = 0 →
        exec (.eventEnable h) s =
          .next (finish s
            (respond 0x00#8
              [hostParam s 1, hostParam s 2, s.ev.marks.setWidth 32, s.ev.notify.setWidth 32, s.ev.wake.setWidth 32]
              { begun .eventEnable h s with
                ev := { s.ev with notify := bits (hostParam s 1) 0 9, wake := bits (hostParam s 2) 0 9 } })))

/-- R189: a class named is cleared but for TAMPER while the Tamper List holds entries and FAULT while one is latched. -/
def Obligations.EventClearKeepsPersistingClasses : Prop :=
  ∀ (h : CmdHeader) (s : State), Accepted .eventClear h s →
    ((hostParam s 1 = 0 ∨ bits (hostParam s 1) 9 23 ≠ 0) →
      exec (.eventClear h) s = .next (finish s (respond 0x13#8 [] (begun .eventClear h s)))) ∧
      (hostParam s 1 ≠ 0 → bits (hostParam s 1) 9 23 = 0 →
        ∀ m stay : BitVec 9, m = bits (hostParam s 1) 0 9 →
          stay =
            s.ev.marks &&& m &&&
              ((if s.tamper.list = [] then 0 else 0x001#9) ||| (if s.faultLatched then 0x100#9 else 0)) →
          exec (.eventClear h) s =
            .next (finish s
              (respondBehind .commandUnit
                ⟨0x00#8,
                  [s.ev.marks.setWidth 32, ((s.ev.marks &&& ~~~m) ||| stay).setWidth 32, stay.setWidth 32,
                    BitVec.ofNat 32 s.tamper.list.length], stay != 0⟩
                { begun .eventClear h s with ev := { s.ev with marks := (s.ev.marks &&& ~~~m) ||| stay } })))

/-- R196: STORE_ERROR is cleared with its address; CLOCK_LOST is cleared while REFCLK is present, and otherwise stays. -/
def Obligations.FaultClearClearsWhatItMay : Prop :=
  ∀ (h : CmdHeader) (s : State), Accepted .faultClear h s →
    ∀ (absent : Bool) (lost : Bool), absent = decide (4096 ≤ s.flt.detector) → lost = (s.flt.clockLost && absent) →
      exec (.faultClear h) s =
        .next (finish s
          (respond (if lost then 0x41#8 else 0x00#8)
            [flag s.flt.storeError 0 ||| flag s.flt.clockLost 1, flag lost 1,
              if s.flt.storeError then s.flt.errorAddr else 0, s.clk.ms, flag (!absent) 0,
              BitVec.ofNat 32 s.sm.backlog.length]
            { begun .faultClear h s with
              flt :=
                { s.flt with
                  storeError := false, clockLost := lost
                  errorAddr := if s.flt.storeError then 0 else s.flt.errorAddr } }))

/-! ### Commands: thresholds and segments -/

/-- R90. -/
def Obligations.ThresholdStageReplacesTheStagedSet : Prop :=
  ∀ (h : CmdHeader) (s : State), Accepted .thresholdStage h s →
    (s.route.state ≠ .opened →
      exec (.thresholdStage h) s = .next (finish s (respond 0x14#8 [] (begun .thresholdStage h s)))) ∧
      (s.route.state = .opened →
        ((hostParam s 1).toInt < -140 ∨ -20 < (hostParam s 1).toInt ∨ 65535 < (hostParam s 4).toNat) →
        exec (.thresholdStage h) s = .next (finish s (respond 0x13#8 [] (begun .thresholdStage h s)))) ∧
      (s.route.state = .opened → -140 ≤ (hostParam s 1).toInt → (hostParam s 1).toInt ≤ -20 →
        (hostParam s 4).toNat ≤ 65535 →
        exec (.thresholdStage h) s =
          .next (finish s
            (respond 0x00#8 [hostParam s 1, hostParam s 2, hostParam s 3, hostParam s 4]
              { begun .thresholdStage h s with
                route :=
                  { s.route with
                    staged :=
                      ⟨(hostParam s 1).setWidth 16, hostParam s 2, hostParam s 3, (hostParam s 4).setWidth 16⟩ } })))

/-- R91. -/
def Obligations.ThresholdNudgeMovesOneField : Prop :=
  ∀ (h : CmdHeader) (s : State), Accepted .thresholdNudge h s →
    (s.route.state ≠ .opened →
      exec (.thresholdNudge h) s = .next (finish s (respond 0x14#8 [] (begun .thresholdNudge h s)))) ∧
      (s.route.state = .opened → 3 < (hostParam s 1).toNat →
        exec (.thresholdNudge h) s = .next (finish s (respond 0x13#8 [] (begun .thresholdNudge h s)))) ∧
      (∀ sum v : Int, s.route.state = .opened → hostParam s 1 = 0 →
        sum = s.route.staged.floor.toInt + (hostParam s 2).toInt → v = nearest (-140) (-20) sum →
        exec (.thresholdNudge h) s =
          .next (finish s
            (respond 0x00#8 [BitVec.ofInt 32 v, if v = sum then 0 else 1]
              { begun .thresholdNudge h s with
                route := { s.route with staged := { s.route.staged with floor := BitVec.ofInt 16 v } } }))) ∧
      (∀ sum v : Int, s.route.state = .opened → hostParam s 1 = 1 →
        sum = s.route.staged.excess.toNat + (hostParam s 2).toInt → v = nearest 0 (2 ^ 32 - 1) sum →
        exec (.thresholdNudge h) s =
          .next (finish s
            (respond 0x00#8 [BitVec.ofInt 32 v, if v = sum then 0 else 1]
              { begun .thresholdNudge h s with
                route := { s.route with staged := { s.route.staged with excess := BitVec.ofInt 32 v } } }))) ∧
      (∀ sum v : Int, s.route.state = .opened → hostParam s 1 = 2 →
        sum = s.route.staged.low.toNat + (hostParam s 2).toInt → v = nearest 0 (2 ^ 32 - 1) sum →
        exec (.thresholdNudge h) s =
          .next (finish s
            (respond 0x00#8 [BitVec.ofInt 32 v, if v = sum then 0 else 1]
              { begun .thresholdNudge h s with
                route := { s.route with staged := { s.route.staged with low := BitVec.ofInt 32 v } } }))) ∧
      (∀ sum v : Int, s.route.state = .opened → hostParam s 1 = 3 →
        sum = s.route.staged.drift.toNat + (hostParam s 2).toInt → v = nearest 0 65535 sum →
        exec (.thresholdNudge h) s =
          .next (finish s
            (respond 0x00#8 [BitVec.ofInt 32 v, if v = sum then 0 else 1]
              { begun .thresholdNudge h s with
                route := { s.route with staged := { s.route.staged with drift := BitVec.ofInt 16 v } } })))

/-- R86: the walk of a segment left, and what leaving does to the segment, its meters and the Poll List.
R87: SEGMENT_ENTER, refused, with no segment active, and leaving the active one.
R88: SEGMENT_LEAVE, refused, and taken. -/
def Obligations.SegmentsAreEnteredAndLeft : Prop :=
  (∀ (s : State) (g : Nat),
      (∀ i, i ∈ walkOf s g ↔
          ∃ m, s.dir[i]? = some m ∧ m.img.segment = g ∧ (m.state = .expected ∨ m.state = .heard)) ∧
        (walkOf s g).Pairwise (· < ·)) ∧
  (∀ (h : CmdHeader) (s : State), Accepted .segmentEnter h s →
      (s.route.state ≠ .opened →
        exec (.segmentEnter h) s = .next (finish s (respond 0x14#8 [] (begun .segmentEnter h s)))) ∧
        (s.route.state = .opened → s.route.params.segCount.toNat ≤ (hostParam s 1).toNat →
          exec (.segmentEnter h) s = .next (finish s (respond 0x13#8 [] (begun .segmentEnter h s)))) ∧
        (∀ x, s.route.state = .opened → (hostParam s 1).toNat < s.route.params.segCount.toNat →
          s.route.activeSeg = none → s.route.segs[(hostParam s 1).toNat]? = some x →
          exec (.segmentEnter h) s =
            .next (finish s
              (respond 0x00#8
                [hostParam s 1, 0xFFFFFFFF#32, 0, 0xFFFFFFFF#32, BitVec.ofNat 32 (segStateCode x.state),
                  BitVec.ofNat 32 s.poll.list.length]
                { begun .segmentEnter h s with
                  route :=
                    { s.route with
                      segs := s.route.segs.modify (hostParam s 1).toNat (fun y => { y with state := .active })
                      activeSeg := some (hostParam s 1).toNat, active := s.route.staged } }))) ∧
        (∀ g n x y left, s.route.state = .opened → n = (hostParam s 1).toNat →
          n < s.route.params.segCount.toNat → s.route.activeSeg = some g → s.route.segs[g]? = some x →
          s.route.segs[n]? = some y → left = (if 0 < x.unresolved then SegState.sweep else .done) →
          ∃ t, exec (.segmentEnter h) s = .next t ∧ t.route.activeSeg = some n ∧ t.route.active = s.route.staged ∧
            t.route.staged = s.route.staged ∧
            t.route.segs =
              (s.route.segs.modify g (fun z => { z with state := left })).modify n
                (fun z => { z with state := .active }) ∧
            t.poll.list = s.poll.list ++ (walkOf s g).map (fun i => ⟨i, 1, none, .queued⟩) ∧
            (∀ (i : Nat) (m : Meter), s.dir[i]? = some m →
              t.dir[i]? = some (if i ∈ walkOf s g then { m with attempts := 0, state := .polling } else m)) ∧
            t.ev = (if left = .done then s.ev.occur .segmentDone else s.ev) ∧ t.sm = s.sm ∧ t.tamper = s.tamper ∧
            t.cap = s.cap ∧
            AnswersWith (begun .segmentEnter h s) t 0x00#8
              [hostParam s 1, BitVec.ofNat 32 g, BitVec.ofNat 32 (walkOf s g).length,
                BitVec.ofNat 32 (segStateCode left),
                BitVec.ofNat 32 (segStateCode (if n = g then left else y.state)),
                BitVec.ofNat 32 t.poll.list.length])) ∧
  (∀ (h : CmdHeader) (s : State), Accepted .segmentLeave h s →
      ((s.route.state ≠ .opened ∨ s.route.activeSeg = none) →
        exec (.segmentLeave h) s = .next (finish s (respond 0x14#8 [] (begun .segmentLeave h s)))) ∧
        (∀ g x left, s.route.state = .opened → s.route.activeSeg = some g → s.route.segs[g]? = some x →
          left = (if 0 < x.unresolved then SegState.sweep else .done) →
          ∃ t, exec (.segmentLeave h) s = .next t ∧ t.route.activeSeg = none ∧ t.route.active = s.route.active ∧
            t.route.staged = s.route.staged ∧
            t.route.segs = s.route.segs.modify g (fun z => { z with state := left }) ∧
            t.poll.list = s.poll.list ++ (walkOf s g).map (fun i => ⟨i, 1, none, .queued⟩) ∧
            (∀ (i : Nat) (m : Meter), s.dir[i]? = some m →
              t.dir[i]? = some (if i ∈ walkOf s g then { m with attempts := 0, state := .polling } else m)) ∧
            t.ev = (if left = .done then s.ev.occur .segmentDone else s.ev) ∧
            t.sm = s.sm ∧ t.tamper = s.tamper ∧ t.cap = s.cap ∧ t.up = s.up ∧
            AnswersWith (begun .segmentLeave h s) t 0x00#8
              [BitVec.ofNat 32 g, BitVec.ofNat 32 (walkOf s g).length, BitVec.ofNat 32 (segStateCode left),
                BitVec.ofNat 32 t.poll.list.length]))

/-- R94: POLL_NOW, refused by route state, by ID and by meter state, and accepted.  R85: an UNREACHABLE meter's segment is
unresolved again. -/
def Obligations.PollNowAddsAPoll : Prop :=
  ∀ (h : CmdHeader) (s : State), Accepted .pollNow h s →
    (s.route.state ≠ .opened →
      exec (.pollNow h) s = .next (finish s (respond 0x14#8 [] (begun .pollNow h s)))) ∧
      (s.route.state = .opened → findMeter s.dir (hostParam s 1) = none →
        exec (.pollNow h) s = .next (finish s (respond 0x13#8 [] (begun .pollNow h s)))) ∧
      (∀ i m, s.route.state = .opened → findMeter s.dir (hostParam s 1) = some i → s.dir[i]? = some m →
        (m.state = .polling ∨ m.state = .read) →
        exec (.pollNow h) s =
          .next (finish s
            (respond 0x14#8 [BitVec.ofNat 32 i, 0, BitVec.ofNat 32 (meterStateCode m.state)] (begun .pollNow h s)))) ∧
      (∀ i m, s.route.state = .opened → findMeter s.dir (hostParam s 1) = some i → s.dir[i]? = some m →
        m.state ≠ .polling → m.state ≠ .read →
        ∃ t, exec (.pollNow h) s = .next t ∧ t.poll.list = s.poll.list ++ [⟨i, 1, none, .queued⟩] ∧
          t.route = { s.route with segs := movedSegs m.img.segment m.state .polling s.route.segs } ∧ t.ev = s.ev ∧
          AnswersWith (begun .pollNow h s) t 0x00#8
            [BitVec.ofNat 32 i, BitVec.ofNat 32 t.poll.list.length, BitVec.ofNat 32 (meterStateCode m.state)] ∧
          t.dir[i]? = some { m with attempts := 0, state := .polling } ∧ (∀ j, j ≠ i → t.dir[j]? = s.dir[j]?) ∧
          t.sm = s.sm ∧ t.tamper = s.tamper ∧ t.cap = s.cap ∧ t.up = s.up)

/-! ### Commands: the route -/

/-- R37: ROUTE_OPEN: WRONG_STATE, FAULTED, or the load begins with the read of the route number. -/
def Obligations.RouteOpenBeginsTheLoad : Prop :=
  ∀ (h : CmdHeader) (s : State), Accepted .routeOpen h s →
    (s.route.state ≠ .noRoute →
      exec (.routeOpen h) s = .next (finish s (respond 0x14#8 [] (begun .routeOpen h s)))) ∧
      (s.route.state = .noRoute → s.faultLatched = true →
        exec (.routeOpen h) s = .next (finish s (respond 0x15#8 [] (begun .routeOpen h s)))) ∧
      (s.route.state = .noRoute → s.faultLatched = false →
        exec (.routeOpen h) s =
          .next (finish s { begun .routeOpen h s with route := { s.route with load := some .number } }))

/-- R154 to R159: ROUTE_CLOSE is refused outside OPEN; its close event leaves the active segment, removes every poll, and
requests a MISS for each meter without a record request and the SUMMARY; the reasons of the MISS requests and which meters
have one, in index order; the response; the left segment's SWEEP or DONE. -/
def Obligations.RouteCloseRequestsTheRecords : Prop :=
  (∀ (h : CmdHeader) (s : State), Accepted .routeClose h s →
      (s.route.state ≠ .opened →
        exec (.routeClose h) s = .next (finish s (respond 0x14#8 [] (begun .routeClose h s)))) ∧
        (s.route.state = .opened →
          ∃ t, exec (.routeClose h) s = .next t ∧ t.route.state = .closing ∧ t.route.number = s.route.number ∧
            t.route.params = s.route.params ∧ t.route.activeSeg = none ∧ t.poll.list = [] ∧ t.poll.tx = s.poll.tx ∧
            t.up = s.up ∧ t.tamper = s.tamper ∧ t.cap = s.cap) ∧
        (∀ (walked cut : List Nat) (dir : List Meter) (misses : List (Nat × MissReason)), s.route.state = .opened →
          ((s.route.activeSeg = none ∧ walked = []) ∨ ∃ g, s.route.activeSeg = some g ∧ walked = walkOf s g) →
          cut = s.poll.list.map (fun e => e.index) ++ walked →
          dir =
            s.dir.mapIdx (fun i m =>
              if i ∈ cut then
                { m with
                  state := if m.window = [] then .expected else .heard
                  attempts := if i ∈ walked then 0 else m.attempts }
              else m) →
          misses = missRequests dir cut →
          ∃ t, exec (.routeClose h) s = .next t ∧
            t.sm.backlog = s.sm.backlog ++ misses.map (fun r => .miss r.1 r.2) ++ [.summary] ∧
            t.route.missed = satHalf misses.length ∧ t.dir = dir.map (fun m => { m with requested := true }) ∧
            AnswersWith (begun .routeClose h s) t 0x00#8
              [BitVec.ofNat 32 t.sm.backlog.length,
                BitVec.ofNat 32 (misses.countP fun r => decide (r.2 = .notHeard)) |||
                  (BitVec.ofNat 32 (misses.countP fun r => decide (r.2 = .unconfirmed)) <<< 16),
                BitVec.ofNat 32 (misses.countP fun r => decide (r.2 = .pollCancelled)) |||
                  (BitVec.ofNat 32 (misses.countP fun r => decide (r.2 = .pollFailed)) <<< 16),
                BitVec.ofNat 32 cut.length,
                (match s.route.activeSeg with
                  | none => 0xFFFFFFFF#32
                  | some g => BitVec.ofNat 32 g),
                BitVec.ofNat 32 (dir.countP fun m => decide (m.state = .read)) |||
                  (BitVec.ofNat 32 (dir.countP fun m => decide (m.state = .unreachable)) <<< 16),
                s.route.number.setWidth 32]) ∧
        (s.route.state = .opened →
          (∀ e ∈ s.poll.list, ∀ m, s.dir[e.index]? = some m → m.state = .polling) →
          ∃ t, exec (.routeClose h) s = .next t ∧
            (s.route.activeSeg = none → t.route.segs = s.route.segs ∧ t.ev = s.ev) ∧
            (∀ g x left, s.route.activeSeg = some g → s.route.segs[g]? = some x →
              left = (if 0 < x.unresolved then SegState.sweep else .done) →
              t.route.segs = s.route.segs.modify g (fun z => { z with state := left }) ∧
                t.ev = if left = .done then s.ev.occur .segmentDone else s.ev))) ∧
  (∀ (dir : List Meter) (cut : List Nat),
      ((missRequests dir cut).map fun r => r.1).Pairwise (· < ·) ∧ ∀ r ∈ missRequests dir cut, r.1 < dir.length) ∧
  (∀ (dir : List Meter) (cut : List Nat) (i : Nat) (m : Meter), dir[i]? = some m →
      (m.requested = true → ∀ r, (i, r) ∉ missRequests dir cut) ∧
        (m.requested = false →
          (i, if m.state = .unreachable then MissReason.pollFailed
              else if i ∈ cut ∧ m.attempts ≠ 0 then .pollCancelled
              else if m.window ≠ [] then .unconfirmed else .notHeard) ∈ missRequests dir cut))

/-- R55: METER_QUERY changes nothing but its own flight: WRONG_STATE, BAD_PARAM, or the entry's fields. -/
def Obligations.MeterQueryAnswersFromTheDirectory : Prop :=
  ∀ (h : CmdHeader) (s : State), Accepted .meterQuery h s →
    (s.route.state = .noRoute →
      exec (.meterQuery h) s = .next (finish s (respond 0x14#8 [] (begun .meterQuery h s)))) ∧
      ((s.route.state = .opened ∨ s.route.state = .closing) → findMeter s.dir (hostParam s 1) = none →
        exec (.meterQuery h) s = .next (finish s (respond 0x13#8 [] (begun .meterQuery h s)))) ∧
      (∀ i m, (s.route.state = .opened ∨ s.route.state = .closing) → findMeter s.dir (hostParam s 1) = some i →
        s.dir[i]? = some m → m.window.length ≤ 4 →
        ∃ w1 w2 w3 w4 w5 w6 w7 : Word,
          exec (.meterQuery h) s =
              .next (finish s (respond 0x00#8 [w1, w2, w3, w4, w5, w6, w7] (begun .meterQuery h s))) ∧
            w1 = BitVec.ofNat 32 i ||| (BitVec.ofNat 32 (meterStateCode m.state) <<< 16) ∧
            bits w2 0 8 = m.votes ∧ bits w2 8 8 = BitVec.ofNat 8 m.window.length ∧ bits w2 16 8 = m.repeats ∧
            bits w2 24 8 = m.flags ∧
            (∀ c, m.confirmed = some c →
              w3 = c.reading.value.setWidth 32 ∧ bits w4 0 16 = c.reading.value.extractLsb' 32 16 ∧
                bits w4 16 8 = c.reading.unit ∧ w7 = c.stamp) ∧
            (m.confirmed = none → w3 = 0 ∧ w4 = 0 ∧ w7 = 0) ∧ bits w5 0 8 = m.causes ∧ bits w5 8 8 = m.written ∧
            bits w5 16 8 = m.best.getD 0 ∧ (∀ l, m.learned = some l → bits w5 24 8 = l.path.hops) ∧
            (m.learned = none → bits w5 24 8 = 0xFF#8) ∧ bits w6 0 8 = m.attempts ∧
            (∀ e, pollOf s i = some e → bits w6 8 8 = BitVec.ofNat 8 (pollSubCode e.sub)) ∧
            (pollOf s i = none → bits w6 8 8 = 0#8) ∧ w6.getLsbD 16 = m.best.isSome ∧
            w6.getLsbD 17 = m.first.isSome ∧ w6.getLsbD 18 = m.pendingNote ∧ w6.getLsbD 19 = m.ackPending)

/-- R122 to R125: TAMPER_ACK is refused for 0 and beyond the list; accepted it removes the oldest entries, acknowledges
their slots or their meters' records to come, gives the header writes in list order and the response behind them.
R115, R125: when those writes join (drainAcks): in order, one whose composition header has not joined keeping the later ones
and the response behind it (log entry 21, DEDUCED), the response behind whatever the Tamper Unit waits with (log entry 34,
DESIGN CHOICE).  The end of an event gives the event's own writes first and then these, and its status writes behind them where
no free choice is left (log entry 10, DESIGN CHOICE). -/
def Obligations.TamperAckRemovesTheOldest : Prop :=
  (∀ (h : CmdHeader) (s : State), Accepted .tamperAck h s →
    ((hostParam s 1 = 0 ∨ s.tamper.list.length < (hostParam s 1).toNat) →
      exec (.tamperAck h) s = .next (finish s (respond 0x13#8 [] (begun .tamperAck h s)))) ∧
      (∀ taken last, hostParam s 1 ≠ 0 → (hostParam s 1).toNat ≤ s.tamper.list.length →
        taken = s.tamper.list.take (hostParam s 1).toNat → taken.getLast? = some last →
        ∃ u, exec (.tamperAck h) s = .next (finish s u) ∧ u.tamper.list = s.tamper.list.drop (hostParam s 1).toNat ∧
          u.tamper.overflow = s.tamper.overflow ∧ u.tamper.records = s.tamper.records ∧ u.ev = s.ev ∧ u.poll = s.poll ∧
          u.route = s.route ∧ u.up = s.up ∧ u.sm.backlog = s.sm.backlog ∧
          (∀ e k r, e ∈ taken → e.slot = some k → s.rowOf k = some r → u.rowOf k = some { r with acked := true }) ∧
          (∀ (i : Nat) (m : Meter), s.dir[i]? = some m →
            u.dir[i]? =
              some
                { m with
                  ackPending :=
                    m.ackPending ||
                      taken.any (fun e => e.slot.isNone && decide (findMeter s.dir e.meter = some i)) }) ∧
          u.ins =
            { s.ins with
              ackFifo :=
                s.ins.ackFifo ++
                  (taken.filterMap (fun e => e.slot)).map (fun k =>
                    if headerPending s k then QWrite.header k
                    else
                      .word (recordAddr s.path.areaSel k 0)
                        (match s.rowOf k with
                          | some r => headerWord r.kind r.locked true
                          | none => 0)
                        false) ++
                  [.respond] } ∧
          AnswersWith (begun .tamperAck h s) u 0x00#8
            [hostParam s 1, BitVec.ofNat 32 (s.tamper.list.length - (hostParam s 1).toNat),
              BitVec.ofNat 32 (taken.countP fun e => e.slot.isSome),
              BitVec.ofNat 32 (taken.countP fun e => e.slot.isNone), last.route.setWidth 32, last.meter,
              (match last.slot with
                | some k => BitVec.ofNat 32 k
                | none => 0xFFFF#32) ||| (last.causes.setWidth 32 <<< 16)])) ∧
  (∀ (t : State) (i : Inserts),
      drainAcks t i [] = { i with ackFifo := [] } ∧
        (∀ k qs, headerJoined t i k = false → drainAcks t i (.header k :: qs) = { i with ackFifo := .header k :: qs }) ∧
        (∀ k qs, headerJoined t i k = true →
          drainAcks t i (.header k :: qs) = drainAcks t (giveOne t i .tamperUnit (.header k)) qs) ∧
        (∀ q qs, (∀ k, q ≠ .header k) → drainAcks t i (q :: qs) = drainAcks t (giveOne t i .tamperUnit q) qs) ∧
        (∀ k r, t.rowOf k = some r →
          (i.waits = [] → i.entries.length < 64 →
            giveOne t i .tamperUnit (.header k) =
              i.withEntries
                (i.entries ++
                  [⟨recordAddr t.path.areaSel k 0, recordHeader r.kind r.locked r.acked, .tamperUnit, false⟩])) ∧
            ((i.waits ≠ [] ∨ 64 ≤ i.entries.length) → (∀ x ∈ i.waits, x.1 ≠ .tamperUnit) →
              giveOne t i .tamperUnit (.header k) =
                { i with
                  waits :=
                    i.waits ++
                      [(.tamperUnit,
                        [.word (recordAddr t.path.areaSel k 0) (recordHeader r.kind r.locked r.acked) false])] })) ∧
        ((∀ x ∈ i.waits, x.1 ≠ .tamperUnit) → giveOne t i .tamperUnit .respond = giveResponse t i) ∧
        (∀ pre qs post, i.waits = pre ++ (.tamperUnit, qs) :: post → (∀ x ∈ pre ++ post, x.1 ≠ .tamperUnit) →
          giveOne t i .tamperUnit .respond = { i with waits := pre ++ (.tamperUnit, qs ++ [.respond]) :: post })) ∧
  (∀ (s t : State) (given released : Inserts), t.ins.ties = [] →
      given = t.ins.outbox.foldl (fun i q => giveOne t i q.1 q.2) { t.ins with outbox := [] } →
      released = releaseLocks t (releaseBody t given) →
      (finish s t).ins =
        (changedStatus s t).foldl (fun i n => i.giveStatus t.path.areaSel n (statusWord t n))
          (drainAcks t released released.ackFifo))

/-! ### Commands: the upload -/

/-- R167: UPLOAD_BEGIN's refusals in their order.
R168: its acceptance selects the STORED records of lowest sequence number in ascending order, by slot number where two are
equal (R141); they become IN_BATCH, the batch is created BUILDING, and the manifest header is given. -/
def Obligations.UploadBeginSelectsTheOldestRecords : Prop :=
  ∀ (h : CmdHeader) (s : State), Accepted .uploadBegin h s →
    (s.up.batch ≠ none → exec (.uploadBegin h) s = .next (finish s (respond 0x14#8 [] (begun .uploadBegin h s)))) ∧
      (s.up.batch = none → s.faultLatched = true →
        exec (.uploadBegin h) s = .next (finish s (respond 0x15#8 [] (begun .uploadBegin h s)))) ∧
      (s.up.batch = none → s.faultLatched = false → (hostParam s 1 = 0 ∨ 512 < (hostParam s 1).toNat) →
        exec (.uploadBegin h) s = .next (finish s (respond 0x13#8 [] (begun .uploadBegin h s)))) ∧
      (s.up.batch = none → s.faultLatched = false → hostParam s 1 ≠ 0 → (hostParam s 1).toNat ≤ 512 →
        s.storedCount = 0 →
        exec (.uploadBegin h) s = .next (finish s (respond 0x01#8 [] (begun .uploadBegin h s)))) ∧
      (s.up.batch = none → s.faultLatched = false → hostParam s 1 ≠ 0 → (hostParam s 1).toNat ≤ 512 →
        s.storedCount ≠ 0 → risingFrom 0 s.sm.slots = true →
        ∃ u b, exec (.uploadBegin h) s = .next (finish s u) ∧ u.up.batch = some b ∧ b.state = .building ∧
          b.id = s.up.nextId ∧ u.up.lastId = s.up.nextId ∧
          u.up.nextId = (if s.up.nextId = 0xFFFF#16 then 1 else s.up.nextId + 1) ∧
          b.items.length = min (hostParam s 1).toNat s.storedCount ∧ b.place = 0 ∧ b.word = 1 ∧
          b.left = s.storedCount - b.items.length ∧
          (∀ it ∈ b.items, it.crc = 0 ∧ it.mask = 0 ∧
            ∃ r, s.rowOf it.slot = some r ∧ r.state = .stored ∧ r.seq = it.seq) ∧
          b.items.Pairwise (fun x y => x.seq < y.seq ∨ (x.seq = y.seq ∧ x.slot < y.slot)) ∧
          (∀ k r, s.rowOf k = some r → r.state = .stored → (∀ it ∈ b.items, it.slot ≠ k) →
            ∀ it ∈ b.items, it.seq < r.seq ∨ (it.seq = r.seq ∧ it.slot < k)) ∧
          (∀ k r, s.rowOf k = some r →
            u.rowOf k =
              some (if b.items.any (fun it => decide (it.slot = k)) then { r with state := .inBatch } else r)) ∧
          u.ins =
            { s.ins with
              outbox := s.ins.outbox ++ manifestGiven s.path.areaSel s.up.nextId 1 b.items.length 0 } ∧
          u.sm.backlog = s.sm.backlog ∧ u.sm.roster = s.sm.roster ∧ u.tamper = s.tamper ∧ u.dir = s.dir)

/-- R175: the refusals of UPLOAD_ACK, in their order, leave the batch as it was.
R176: an accepted UPLOAD_ACK ends the batch, frees its slots, lowers the roster, drops their Tamper List entries, and gives
an EMPTY header for each slot, the ACKED manifest header and the response, in this order; R178: its results. -/
def Obligations.UploadAckReleasesTheFetchedBatch : Prop :=
  (∀ (h : CmdHeader) (s : State), Accepted .uploadAck h s →
      (s.up.batch = none → exec (.uploadAck h) s = .next (finish s (respond 0x14#8 [] (begun .uploadAck h s)))) ∧
        (∀ b, s.up.batch = some b → hostParam s 1 ≠ b.id.setWidth 32 →
          exec (.uploadAck h) s =
            .next (finish s
              (respond 0x13#8 [b.id.setWidth 32, BitVec.ofNat 32 (batchStateCode b.state)] (begun .uploadAck h s)))) ∧
        (∀ b, s.up.batch = some b → hostParam s 1 = b.id.setWidth 32 → b.state = .opened →
          exec (.uploadAck h) s =
            .next (finish s (respond 0x30#8 [b.id.setWidth 32, 2] (begun .uploadAck h s)))) ∧
        (∀ b, s.up.batch = some b → hostParam s 1 = b.id.setWidth 32 → b.state = .fetched → hostParam s 2 ≠ b.digest →
          exec (.uploadAck h) s =
            .next (finish s (respond 0x31#8 [b.id.setWidth 32, 3] (begun .uploadAck h s))))) ∧
  (∀ (h : CmdHeader) (b : Batch) (s : State), Accepted .uploadAck h s → s.up.batch = some b → b.state = .fetched →
      hostParam s 1 = b.id.setWidth 32 → hostParam s 2 = b.digest → risingFrom 0 s.sm.slots = true →
      (b.items.map (fun it => it.slot)).Nodup →
      ∃ u, exec (.uploadAck h) s = .next (finish s u) ∧ u.up.batch = none ∧ u.up.lastId = s.up.lastId ∧
        u.up.nextId = s.up.nextId ∧
        (∀ it ∈ b.items, u.slotState it.slot = .free) ∧
        (∀ k, (∀ it ∈ b.items, it.slot ≠ k) → u.slotState k = s.slotState k ∧ u.rowOf k = s.rowOf k) ∧
        u.tamper.list = s.tamper.list.filter (fun e => b.items.all fun it => decide (e.slot ≠ some it.slot)) ∧
        (∀ e n, e ∈ s.sm.roster →
          n = b.items.countP (fun it => decide ((s.rowOf it.slot).map (fun r => r.route) = some e.route)) →
          (e.isOpen = true ∨ n < e.count) → (∀ it ∈ b.items, (s.rowOf it.slot).isSome = true) →
          { e with count := e.count - n } ∈ u.sm.roster) ∧
        (∀ e ∈ u.sm.roster, e.isOpen = false →
          (∃ it ∈ b.items, (s.rowOf it.slot).map (fun r => r.route) = some e.route) → e.count ≠ 0) ∧
        u.ins =
          { s.ins with
            outbox :=
              s.ins.outbox ++
                b.items.map (fun it =>
                  (Producer.uploadUnit, QWrite.word (recordAddr s.path.areaSel it.slot 0) 0 false)) ++
                manifestGiven s.path.areaSel b.id 4 b.items.length b.digest ++ [(.uploadUnit, .respond)] } ∧
        u.sm.backlog = s.sm.backlog ∧ u.sm.nextSeq = s.sm.nextSeq ∧ u.dir = s.dir ∧ u.ev = s.ev ∧
        AnswersWith (begun .uploadAck h s) u 0x00#8
          [b.id.setWidth 32, BitVec.ofNat 32 b.items.length,
            BitVec.ofNat 32 (s.tamper.list.length - u.tamper.list.length),
            BitVec.ofNat 32 (s.sm.roster.length - u.sm.roster.length), BitVec.ofNat 32 u.freeCount,
            BitVec.ofNat 32 u.sm.backlog.length, BitVec.ofNat 32 u.sm.roster.length])

/-- R179: UPLOAD_ABANDON: refusals, and the batch ends with its records STORED, the ABANDONED manifest header and the response
given. -/
def Obligations.UploadAbandonReturnsTheRecords : Prop :=
  ∀ (h : CmdHeader) (s : State), Accepted .uploadAbandon h s →
    (s.up.batch = none →
      exec (.uploadAbandon h) s = .next (finish s (respond 0x14#8 [] (begun .uploadAbandon h s)))) ∧
      (∀ b, s.up.batch = some b → hostParam s 1 ≠ b.id.setWidth 32 →
        exec (.uploadAbandon h) s = .next (finish s (respond 0x13#8 [] (begun .uploadAbandon h s)))) ∧
      (∀ b, s.up.batch = some b → hostParam s 1 = b.id.setWidth 32 →
        ∃ t, exec (.uploadAbandon h) s = .next (finish s t) ∧ t.up = { s.up with batch := none } ∧
          (∀ it ∈ b.items, ∀ r, s.rowOf it.slot = some r → t.rowOf it.slot = some { r with state := .stored }) ∧
          (∀ k, (∀ it ∈ b.items, it.slot ≠ k) → t.rowOf k = s.rowOf k) ∧ t.tamper = s.tamper ∧
          t.sm.roster = s.sm.roster ∧ t.sm.backlog = s.sm.backlog ∧ t.dir = s.dir ∧ t.ev = s.ev ∧
          t.ins =
            { s.ins with
              outbox :=
                s.ins.outbox ++ manifestGiven s.path.areaSel b.id 5 b.items.length b.digest ++
                  [(.uploadUnit, .respond)] } ∧
          AnswersWith (begun .uploadAbandon h s) t 0x00#8
            [b.id.setWidth 32, BitVec.ofNat 32 b.items.length, BitVec.ofNat 32 (batchStateCode b.state)])

/-! ### The Insert Queue's own steps -/

/-- R31: the response's words 1 to 7 join in ascending order, and word 0 is due to join behind them; what finds no place waits
(R10), word 0 last.
R31, R32: response word 0 joins as it then stands, at once or after it has waited for a place, and the command's flight ends
with COMMAND_DONE (log entry 12). -/
def Obligations.ResponseEndsTheFlight : Prop :=
  (∀ (code tag : Byte) (r : Response) (w0 : Word) (s : State), Awake s → s.cmd.running = some ⟨code, tag, some r⟩ →
      w0 =
        tag.setWidth 32 ||| (code.setWidth 32 <<< 8) ||| (r.status.setWidth 32 <<< 16) |||
          flag s.cmd.collision 24 ||| flag r.notCleared 25 →
      (s.ins.resp0 = true → s.ins.entries.length < 64 → s.ins.waits = [] →
        exec .commandFlightEnd s =
          .next (finish s
            { s with
              ins :=
                { s.ins with
                  entries := s.ins.entries ++ [⟨responseAddr s.path.areaSel 0, w0, .commandUnit, false⟩]
                  throttle :=
                    if 48 ≤ s.ins.entries.length + 1 then true
                    else if s.ins.entries.length + 1 ≤ 32 then false else s.ins.throttle
                  resp0 := false }
              cmd := { s.cmd with inFlight := false, collision := false, running := none }
              ev := s.ev.occur .commandDone })) ∧
        (s.ins.resp0 = true → (64 ≤ s.ins.entries.length ∨ s.ins.waits ≠ []) →
          ((∀ x ∈ s.ins.waits, x.1 ≠ .commandUnit) →
            exec .commandFlightEnd s =
              .next (finish s
                { s with
                  ins := { s.ins with resp0 := false, waits := s.ins.waits ++ [(.commandUnit, [.response0])] } })) ∧
            (∀ pre qs post, s.ins.waits = pre ++ (.commandUnit, qs) :: post →
              (∀ x ∈ pre ++ post, x.1 ≠ .commandUnit) →
              exec .commandFlightEnd s =
                .next (finish s
                  { s with
                    ins :=
                      { s.ins with
                        resp0 := false, waits := pre ++ (.commandUnit, qs ++ [.response0]) :: post } }))) ∧
        (∀ others, s.ins.resp0 = false → s.ins.entries.length < 64 →
          s.ins.waits = (.commandUnit, [.response0]) :: others →
          exec .commandFlightEnd s =
            .next (finish s
              { s with
                ins :=
                  { s.ins with
                    entries := s.ins.entries ++ [⟨responseAddr s.path.areaSel 0, w0, .commandUnit, false⟩]
                    throttle :=
                      if 48 ≤ s.ins.entries.length + 1 then true
                      else if s.ins.entries.length + 1 ≤ 32 then false else s.ins.throttle
                    waits := others }
                cmd := { s.cmd with inFlight := false, collision := false, running := none }
                ev := s.ev.occur .commandDone }))) ∧
  (∀ (t : State) (i : Inserts) (code tag : Byte) (r : Response),
      t.cmd.running = some ⟨code, tag, some r⟩ → i.waits = [] → i.entries.length + 7 < 64 →
      (giveResponse t i).entries =
          i.entries ++ [1, 2, 3, 4, 5, 6, 7].map (fun w =>
            ⟨responseAddr t.path.areaSel w, r.results.getD (w - 1) 0, .commandUnit, false⟩) ∧
        (giveResponse t i).resp0 = true) ∧
  (∀ (t : State) (i : Inserts) (code tag : Byte) (r : Response) (word : Nat → QWrite),
      t.cmd.running = some ⟨code, tag, some r⟩ →
      word = (fun w => .word (responseAddr t.path.areaSel w) (r.results.getD (w - 1) 0) false) →
      ((i.waits ≠ [] ∨ 64 ≤ i.entries.length) → (∀ x ∈ i.waits, x.1 ≠ .commandUnit) →
        giveResponse t i =
          { i with waits := i.waits ++ [(.commandUnit, [1, 2, 3, 4, 5, 6, 7].map word ++ [.response0])] }) ∧
        (∀ n, n ≤ 7 → i.waits = [] → i.entries.length + n = 64 →
          (giveResponse t i).entries =
              i.entries ++ ([1, 2, 3, 4, 5, 6, 7].take n).map (fun w =>
                ⟨responseAddr t.path.areaSel w, r.results.getD (w - 1) 0, .commandUnit, false⟩) ∧
            (giveResponse t i).waits = [(.commandUnit, ([1, 2, 3, 4, 5, 6, 7].drop n).map word ++ [.response0])] ∧
            (giveResponse t i).resp0 = i.resp0))

/-- R12, R15, R140, R163: the oldest entry leaves the queue and memory holds its data with even parity, unless an upstream
access whose hold has ended has the port first, or a producer waits beside a free place, which it gains first (R10; log entry
36); the issue of a composition header makes its WRITING slot STORED, and no slot
in another state moves (R130); the issue of a SUMMARY header completes the CLOSING route. -/
def Obligations.OldestEntryIsIssued : Prop :=
  (∀ (e : QEntry) (es : List QEntry) (s : State), Awake s → s.ins.entries = e :: es → e.notify = false →
      heldDue s = false →
      (s.ins.waits = [] ∨ 64 ≤ s.ins.entries.length) →
      (readWaits s = false ∨ s.path.lastGrant = .insertedRead) →
      exec .insertIssue s =
        .next (finish s
          { s with
            store := s.store.write e.addr ⟨e.data, evenParity e.data⟩ allLanes
            ins := s.ins.withEntries es
            path := { s.path with lastGrant := .queuedWrite } })) ∧
  (∀ (e : QEntry) (es : List QEntry) (k : Nat) (r : RecRow) (s : State),
      Awake s → s.ins.entries = e :: es → e.notify = true → k < 8192 → e.addr = recordAddr s.path.areaSel k 0 →
      s.rowOf k = some r → (r.kind ≠ .summary ∨ s.route.state ≠ .closing) → heldDue s = false →
      (s.ins.waits = [] ∨ 64 ≤ s.ins.entries.length) →
      (readWaits s = false ∨ s.path.lastGrant = .insertedRead) →
      exec .insertIssue s =
        .next (finish s
          { s with
            store := s.store.write e.addr ⟨e.data, evenParity e.data⟩ allLanes
            ins := s.ins.withEntries es
            path := { s.path with lastGrant := .queuedWrite }
            sm :=
              { s.sm with
                slots :=
                  if r.state = .writing then insertAt s.sm.slots k (.record { r with state := .stored })
                  else s.sm.slots } })) ∧
  (∀ (e : QEntry) (es : List QEntry) (k : Nat) (r : RecRow) (s : State),
      Awake s → s.ins.entries = e :: es → e.notify = true → k < 8192 → e.addr = recordAddr s.path.areaSel k 0 →
      s.rowOf k = some r → r.state = .writing → r.kind = .summary → s.route.state = .closing → heldDue s = false →
      (s.ins.waits = [] ∨ 64 ≤ s.ins.entries.length) →
      (readWaits s = false ∨ s.path.lastGrant = .insertedRead) →
      ∃ t, exec .insertIssue s = .next t ∧ t.route.state = .noRoute ∧ t.route.number = 0 ∧
        t.store = s.store.write e.addr ⟨e.data, evenParity e.data⟩ allLanes ∧
        t.sm =
          { s.sm with
            slots := insertAt s.sm.slots k (.record { r with state := .stored })
            roster := (s.sm.roster.map fun x => { x with isOpen := false }).filter fun x => decide (x.count ≠ 0) } ∧
        t.route.params = ⟨0, 0, 0, 0, 0, 0, 0, 0⟩ ∧ t.route.segs = [] ∧ t.route.activeSeg = none ∧
        t.route.active = s.route.active ∧ t.route.staged = s.route.staged ∧ t.route.missed = s.route.missed ∧ t.dir = [] ∧
        t.ev = s.ev.occur .routeDone ∧ t.tamper = s.tamper ∧ t.poll = s.poll ∧ t.cap = s.cap ∧ t.up = s.up ∧
        (∀ x ∈ t.sm.roster, x.isOpen = false ∧ x.count ≠ 0)) ∧
  (∀ s : State, s.ins.waits ≠ [] → s.ins.entries.length < 64 → exec .insertIssue s = .next s)

/-! ### The Capture Unit -/

/-- R57: a commit on Position Slot word 3 replaces the current fix unless its sequence repeats the present one. -/
def Obligations.PositionCommitTakesTheFix : Prop :=
  ∀ (w : BusWord) (s : State), BusFree s → NotQueued s (positionAddr s.path.areaSel 3) →
    canonical 0 s.path.shadow = true →
    ∀ u : State,
      u = { s with
            store := s.store.write (positionAddr s.path.areaSel 3) w allLanes
            path := { s.path with shadow := setD 0 s.path.shadow 27 w.data, snapshot := none } } →
      (∀ f, s.cap.fix = some f → f.seq = bits w.data 16 16 → exec (.positionCommit w) s = .next (finish s u)) ∧
        ((∀ f, s.cap.fix = some f → f.seq ≠ bits w.data 16 16) →
          exec (.positionCommit w) s =
            .next (finish s
              { u with
                cap :=
                  { s.cap with
                    fix :=
                      some
                        ⟨getD 0 s.path.shadow 24, getD 0 s.path.shadow 25, getD 0 s.path.shadow 26, bits w.data 0 8,
                          bits w.data 16 16⟩ } }))

/-- R60, R61, R82, R83: a write to word 0 arms the slot; an overrun is counted, raised and marked; when there is one. -/
def Obligations.WordZeroArmsTheSlot : Prop :=
  (∀ (k : BitVec 8) (w : BusWord) (be : BitVec 4) (s : State),
      BusFree s → NotQueued s (captureAddr s.path.areaSel k.toNat 0) →
      ∃ t, exec (.captureArm k w be) s = .next t ∧
        t.store = s.store.write (captureAddr s.path.areaSel k.toNat 0) w be ∧
        t.path = (shadowed (4096 + 16 * k.toNat) (captureAddr s.path.areaSel k.toNat 0) w be s).path ∧
        t.capSlot k.toNat = ⟨true, !overrunAt s k.toNat && (s.capSlot k.toNat).unread, s.clk.ms, s.cap.fix,
          overrunAt s k.toNat⟩ ∧
        (∀ j, j ≠ k.toNat → t.capSlot j = s.capSlot j) ∧ t.cap.fix = s.cap.fix ∧
        t.cap.unknownMeters = s.cap.unknownMeters ∧ t.cap.unjudged = s.cap.unjudged ∧
        t.cap.routeJudged = s.cap.routeJudged ∧ t.cap.routeUnknown = s.cap.routeUnknown ∧ t.dir = s.dir ∧ t.sm = s.sm ∧
        t.poll = s.poll ∧ t.tamper = s.tamper ∧
        (overrunAt s k.toNat = false →
          t.ev = s.ev ∧ t.cap.overruns = s.cap.overruns ∧ t.cap.routeOverruns = s.cap.routeOverruns ∧
            t.cap.judgeQ = s.cap.judgeQ ∧ t.cap.deferred = s.cap.deferred) ∧
        (overrunAt s k.toNat = true →
          t.ev = s.ev.occur .overrun ∧ t.cap.overruns = satInc s.cap.overruns ∧
            t.cap.routeOverruns =
              (if s.route.state = .noRoute then s.cap.routeOverruns else satInc s.cap.routeOverruns) ∧
            t.cap.judgeQ = s.cap.judgeQ.map (fun b => if b.slot = k.toNat then { b with mark := false } else b) ∧
            t.cap.deferred =
              s.cap.deferred.map (fun b => if b.slot = k.toNat then { b with mark := false } else b))) ∧
  (∀ (s : State) (k : Nat),
      overrunAt s k = true ↔
        (s.capSlot k).unread = true ∨ ∃ b ∈ s.cap.judgeQ ++ s.cap.deferred, b.slot = k ∧ b.mark = true)

/-- R7, R62, R63: a commit on word 15 of an armed slot completes the burst and puts PENDING into memory, or is held while
the Judge Queue is full; of a slot that is not armed it passes.
R14, R65: where a write of the word is still queued it is removed, and a final verdict among them clears the unread mark. -/
def Obligations.WordFifteenCompletesTheBurst : Prop :=
  ∀ (k : BitVec 8) (w : BusWord) (a : Nat) (pending : Word) (s : State), BusFree s →
    a = captureAddr s.path.areaSel k.toNat 15 → pending = 0xFFFF0001#32 ||| flag (s.capSlot k.toNat).overrun 8 →
    ((s.capSlot k.toNat).armed = true → s.cap.judgeQ.length < 16 → canonical CapSlot.clear s.cap.slots = true →
      ∃ u b, exec (.captureCommit k w) s = .next (finish s u) ∧
        u.store = s.store.write a ⟨pending, evenParity pending⟩ allLanes ∧
        u.path = (shadowed (4096 + 16 * k.toNat + 15) a w allLanes s).path ∧
        u.capSlot k.toNat =
          { s.capSlot k.toNat with
            armed := false
            unread :=
              (s.capSlot k.toNat).unread &&
                s.ins.entries.all (fun e => !(decide (e.addr = a) && isFinalVerdict e.data)) } ∧
        (∀ j, j ≠ k.toNat → u.capSlot j = s.capSlot j) ∧ u.cap.judgeQ = s.cap.judgeQ ++ [b] ∧ b.slot = k.toNat ∧
        b.mark = true ∧
        b.words = (List.range 8).map (fun n => getD 0 s.path.shadow (4096 + 16 * k.toNat + n)) ∧
        b.word14 = getD 0 s.path.shadow (4096 + 16 * k.toNat + 14) ∧ b.stamp = (s.capSlot k.toNat).stamp ∧
        b.fix = (s.capSlot k.toNat).fix ∧ b.overrun = (s.capSlot k.toNat).overrun ∧ u.cap.deferred = s.cap.deferred ∧
        ((∃ e ∈ s.ins.entries, e.addr = a) → u.ins = dequeued a s) ∧ (NotQueued s a → u.ins = s.ins) ∧
        u.dir = s.dir ∧ u.sm = s.sm ∧ u.ev = s.ev) ∧
      ((s.capSlot k.toNat).armed = true → 16 ≤ s.cap.judgeQ.length →
        exec (.captureCommit k w) s =
          .next (finish s
            { s with path := { s.path with held := some ⟨.write a w allLanes, .judgeQueue⟩ } })) ∧
      ((s.capSlot k.toNat).armed = false → NotQueued s a →
        exec (.captureCommit k w) s = .next (finish s (shadowed (4096 + 16 * k.toNat + 15) a w allLanes s))) ∧
      exec (.captureCommit k w) s = exec (.upstreamWrite (BitVec.ofNat 32 a) w allLanes) s

/-- R64: a read of word 15, served from the queue or by the store, clears the unread mark exactly when the data served is a
final verdict. -/
def Obligations.VerdictReadClearsTheUnreadMark : Prop :=
  ∀ (k : BitVec 8) (be : BitVec 4) (d : Disturb) (w : BusWord) (s : State), BusFree s →
    Answers s (captureAddr s.path.areaSel k.toNat 15) d w → canonical CapSlot.clear s.cap.slots = true →
    ∃ u, exec (.captureVerdictRead k be d) s = .next (finish s u) ∧ u.store = s.store ∧
      u.path = (answered (captureAddr s.path.areaSel k.toNat 15) w s).path ∧
      u.capSlot k.toNat =
        { s.capSlot k.toNat with
          unread := (s.capSlot k.toNat).unread &&
            !([0x10#8, 0x11#8, 0x12#8, 0x13#8, 0x14#8, 0x20#8, 0x21#8, 0x22#8, 0x23#8, 0x24#8, 0x25#8, 0x26#8].contains
              (bits w.data 0 8)) } ∧
      (∀ j, j ≠ k.toNat → u.capSlot j = s.capSlot j) ∧ u.cap.judgeQ = s.cap.judgeQ ∧
      u.cap.deferred = s.cap.deferred ∧ u.ins = s.ins ∧ u.dir = s.dir ∧ u.sm = s.sm ∧ u.up = s.up ∧ u.ev = s.ev

/-- R66, R67, R68 to R71, R46: the verdicts of a burst that is not accepted, in every route state.  During LOADING a burst
joins the Deferred List with its slot mark set and DEFERRED is written; for a mark that R61 has already cleared in the Judge
Queue the model leaves free whether R46 sets it again (log entry 25, DESIGN CHOICE).
R81: a final verdict is written when the slot mark is set, and then the unread mark is set.
R68, R69, chapter 12.3: the check code, the frame check and the fields of a burst.  R50, R71: the look-up by meter ID. -/
def Obligations.UnacceptedBurstsGetTheirVerdict : Prop :=
  (∀ (b : Burst) (q : List Burst) (s base : State), Awake s → s.cap.judgeQ = b :: q →
      s.ins.isWaiting .captureUnit = false → base = { s with cap := { s.cap with judgeQ := q } } →
      (s.cap.deferred = [] → s.route.state = .noRoute →
        exec .judgeBurst s = .next (finish s (finalVerdict b 0x24#8 (flag b.overrun 8) 0xFFFF#16 base))) ∧
        (s.cap.deferred = [] → s.route.state = .closing →
          exec .judgeBurst s = .next (finish s (finalVerdict b 0x25#8 (flag b.overrun 8) 0xFFFF#16 base))) ∧
        (∀ judged, s.cap.deferred = [] → s.route.state = .opened →
          judged = { base with cap := { base.cap with routeJudged := satInc s.cap.routeJudged } } →
          (b.crcGood = false →
            exec .judgeBurst s = .next (finish s (finalVerdict b 0x20#8 (flag b.overrun 8) 0xFFFF#16 judged))) ∧
            (b.crcGood = true → b.frameGood = false →
              exec .judgeBurst s = .next (finish s (finalVerdict b 0x21#8 (flag b.overrun 8) 0xFFFF#16 judged))) ∧
            (b.crcGood = true → b.frameGood = true → b.rssi.toInt < s.route.active.floor.toInt →
              exec .judgeBurst s = .next (finish s (finalVerdict b 0x22#8 (flag b.overrun 8) 0xFFFF#16 judged))) ∧
            (b.crcGood = true → b.frameGood = true → s.route.active.floor.toInt ≤ b.rssi.toInt →
              findMeter s.dir b.meter = none →
              exec .judgeBurst s =
                .next (finish s
                  (finalVerdict b 0x23#8 (flag b.overrun 8) 0xFFFF#16
                    { judged with
                      cap :=
                        { judged.cap with
                          unknownMeters := satInc s.cap.unknownMeters, routeUnknown := satInc s.cap.routeUnknown } })))) ∧
        (∀ joins, s.route.state = .loading → s.cap.deferred.length < 64 →
          joins = { b with mark := b.mark || s.cutMarks.headD true } →
          exec .judgeBurst s =
            .next (finish s
              { base with
                cap := { base.cap with deferred := s.cap.deferred ++ [joins] }
                cutMarks := if b.mark then s.cutMarks else s.cutMarks.tail
                ins :=
                  { s.ins with
                    outbox :=
                      s.ins.outbox ++
                        [(.captureUnit, .word (captureAddr s.path.areaSel b.slot 15)
                          (0xFFFF0002#32 ||| flag b.overrun 8) false)] } })) ∧
        (s.route.state = .loading → 64 ≤ s.cap.deferred.length →
          exec .judgeBurst s =
            .next (finish s
              (finalVerdict b 0x26#8 (flag b.overrun 8) 0xFFFF#16
                { base with cap := { base.cap with unjudged := satInc s.cap.unjudged } })))) ∧
  (∀ (b : Burst) (code : Byte) (flags : Word) (index : Half) (s : State),
      (b.mark = false → finalVerdict b code flags index s = s) ∧
        (b.mark = true →
          finalVerdict b code flags index s =
            { s with
              cap := { s.cap with slots := setD CapSlot.clear s.cap.slots b.slot { s.capSlot b.slot with unread := true } }
              ins :=
                { s.ins with
                  outbox :=
                    s.ins.outbox ++
                      [(.captureUnit, .word (captureAddr s.path.areaSel b.slot 15)
                        (code.setWidth 32 ||| flags ||| (index.setWidth 32 <<< 16)) false)] } })) ∧
  (∀ (b : Burst) (w : Nat → Word), w = (fun n => b.words.getD n 0) →
      (b.crcGood = true ↔
        (((List.range 7).map w).flatMap fun x =>
            [x.extractLsb' 0 8, x.extractLsb' 8 8, x.extractLsb' 16 8, x.extractLsb' 24 8]).foldl
          (fun (c : Half) (y : Byte) =>
            (fun z : Half => if z.msb then (z <<< 1) ^^^ 0x1021#16 else z <<< 1)^[8] (c ^^^ (y ++ 0#8))) 0xFFFF#16 =
          (w 7).extractLsb' 0 16) ∧
        (b.frameGood = true ↔
          (b.kind = 1#8 ∨ b.kind = 2#8) ∧
            (b.hops = 0#8 ∨ (b.hops = 1#8 ∧ w 5 ≠ 0 ∧ w 5 ≠ w 0) ∨
              (b.hops = 2#8 ∧ w 5 ≠ 0 ∧ w 6 ≠ 0 ∧ w 5 ≠ w 0 ∧ w 6 ≠ w 0 ∧ w 5 ≠ w 6))) ∧
        b.meter = w 0 ∧ b.typeCode = (w 1).extractLsb' 0 8 ∧ b.meterFlags = (w 1).extractLsb' 8 8 ∧
        b.counter = (w 1).extractLsb' 16 16 ∧ b.reading.value = (w 3).extractLsb' 0 16 ++ w 2 ∧
        b.reading.unit = (w 3).extractLsb' 16 8 ∧ b.kind = (w 3).extractLsb' 24 8 ∧ b.hops = (w 4).extractLsb' 0 8 ∧
        b.rssi = b.word14.extractLsb' 0 8 ∧
        b.path = ⟨b.hops, if b.hops = 0#8 then 0 else w 5, if b.hops.toNat < 2 then 0 else w 6⟩) ∧
  (∀ (dir : List Meter) (id : Word),
      (∀ i, findMeter dir id = some i ↔
        (∃ m, dir[i]? = some m ∧ m.img.id = id) ∧ ∀ j x, j < i → dir[j]? = some x → x.img.id ≠ id) ∧
        (findMeter dir id = none ↔ ∀ m ∈ dir, m.img.id ≠ id))

/-- R72, R76, R78, R79, R81: the first vote of a meter without any cause: HEARD with ACCEPTED, or READ with CONFIRMED when
one vote is enough.
R58, R72, R73: which fix a burst has, which signal is the better one, and which path is learned.
R76, R79: a vote that is not enough waits with ACCEPTED.  R76 to R78: enough votes for its reading, or a full window,
confirm the meter; the full window adds UNSTABLE and takes the reading of most candidates, the latest among equals.
R74, R104, R106: a response in its listen window confirms the meter alone, with POLL_MATCH.  Whatever the votes before and
the causes found in the burst.
R85: the unresolved count of the meter's segment, and SEGMENT_DONE.
R75: a duplicate gets DUPLICATE and changes nothing beyond R72 and R73.
R80: a burst of a READ meter is a REPEAT within the drift allowance, and otherwise ACCEPTED with TAMPER and DRIFT. -/
def Obligations.FirstVoteHearsOrConfirms : Prop :=
  (∀ (b : Burst) (q : List Burst) (i : Nat) (m heard : Meter) (c : Candidate) (s : State), Judged b q i m s →
      b.kind = 1#8 → m.state = .expected → m.window = [] →
      burstCauses m.img b.typeCode b.meterFlags b.counter = 0 → c = candidateOf b s.route.params.staleLimit →
      heard =
        { m with
          flags := m.flags ||| b.meterFlags, best := betterRssi m.best b.rssi
          learned := learnPath m.learned b.path b.rssi, window := [c], votes := m.votes + 1
          lastCounter := some b.counter } →
      (1 < s.route.params.votesNeeded.toNat →
        ∃ v, exec .judgeBurst s =
              .next (finish s (finalVerdict b 0x10#8 (flag b.overrun 8) (BitVec.ofNat 16 i) v)) ∧
          VoteFrame i (acceptedState b q i s) v ∧ v.dir[i]? = some { heard with state := .heard } ∧
          v.poll = s.poll ∧ v.ev = s.ev ∧ v.route = s.route) ∧
        (s.route.params.votesNeeded = 1 → confirmCauses m.img b.reading s.route.active = 0 →
          ∃ v, exec .judgeBurst s =
                .next (finish s
                  (finalVerdict b 0x11#8 (flag b.overrun 8) (BitVec.ofNat 16 i) (readingAsked i v))) ∧
            VoteFrame i (acceptedState b q i s) v ∧
            v.dir[i]? = some { heard with state := .read, confirmed := some ⟨b.reading, b.stamp, c.fix⟩ } ∧
            v.poll = { s.poll with list := s.poll.list.filter (fun e => decide (e.index ≠ i)) } ∧
            v.route = { s.route with segs := movedSegs m.img.segment .expected .read s.route.segs } ∧
            v.ev = movedEvents m.img.segment .expected .read s.route.segs s.ev)) ∧
  (∀ (stamp : Word) (limit : Half), freshFix none stamp limit = none ∧
      ∀ f : PosFix,
        freshFix (some f) stamp limit =
          if f.quality ≠ 0 ∧ (stamp - f.time).toNat < 2 ^ 31 ∧ (stamp - f.time).toNat ≤ limit.toNat then
            some ⟨f.lat, f.lon, stamp - f.time⟩
          else none) ∧
  (∀ r o : Byte, betterRssi none r = some r ∧ betterRssi (some o) r = some (if o.toInt < r.toInt then r else o)) ∧
  (∀ (p : RelayPath) (r : Byte) (l : Learned),
      learnPath none p r = some ⟨p, r⟩ ∧ (p.hops = 0 → learnPath (some l) p r = some ⟨p, r⟩) ∧
        (p.hops ≠ 0 → (p.hops.toNat < l.path.hops.toNat ∨ (p.hops = l.path.hops ∧ l.rssi.toInt < r.toInt)) →
          learnPath (some l) p r = some ⟨p, r⟩) ∧
        (p.hops ≠ 0 → ¬(p.hops.toNat < l.path.hops.toNat ∨ (p.hops = l.path.hops ∧ l.rssi.toInt < r.toInt)) →
          learnPath (some l) p r = some l)) ∧
  (∀ (b : Burst) (q : List Burst) (i : Nat) (m x : Meter) (fl : Word) (c : Candidate) (window : List Candidate)
      (s base : State), Judged b q i m s → OrdinaryFlags b i m s fl → ¬Duplicate b m → m.state ≠ .read →
      base = causedState b q i m s → base.dir[i]? = some x → c = candidateOf b s.route.params.staleLimit →
      window = m.window ++ [c] →
      (votesIn window b.reading < s.route.params.votesNeeded.toNat → m.window.length < 3 →
        ∃ v, exec .judgeBurst s = .next (finish s (finalVerdict b 0x10#8 fl (BitVec.ofNat 16 i) v)) ∧
          VoteFrame i base v ∧ v.poll = base.poll ∧ v.ev = base.ev ∧
          v.dir[i]? =
            some { votedMeter b c x with state := if m.state = .polling then .polling else .heard } ∧
          v.route =
            { base.route with
              segs :=
                movedSegs m.img.segment m.state (if m.state = .polling then .polling else .heard) base.route.segs }) ∧
        (∀ (y : Candidate) (found : Byte),
          ((s.route.params.votesNeeded.toNat ≤ votesIn window b.reading ∧ y = c ∧
              found = confirmCauses m.img b.reading s.route.active) ∨
            (votesIn window b.reading < s.route.params.votesNeeded.toNat ∧ 3 ≤ m.window.length ∧
              found = confirmCauses m.img y.reading s.route.active ||| 0x40#8 ∧
              ∃ pre post, window = pre ++ y :: post ∧
                (∀ z ∈ window, votesIn window z.reading ≤ votesIn window y.reading) ∧
                ∀ z ∈ post, votesIn window z.reading < votesIn window y.reading)) →
          ∃ v, exec .judgeBurst s =
                .next (finish s
                  (finalVerdict b 0x11#8 (fl ||| if found = 0 then 0 else 0x200#32) (BitVec.ofNat 16 i)
                    (readingAsked i (addCauses i found v)))) ∧
            VoteFrame i base v ∧
            v.poll = { base.poll with list := base.poll.list.filter (fun e => decide (e.index ≠ i)) } ∧
            v.dir[i]? =
              some { votedMeter b c x with state := .read, confirmed := some ⟨y.reading, y.stamp, y.fix⟩ } ∧
            v.route = { base.route with segs := movedSegs m.img.segment m.state .read base.route.segs } ∧
            v.ev = movedEvents m.img.segment m.state .read base.route.segs base.ev)) ∧
  (∀ (b : Burst) (q : List Burst) (i : Nat) (m x : Meter) (e : PollEntry) (expiry : Word) (found : Byte)
      (s base : State), Judged b q i m s → b.kind = 2#8 → pollOf s i = some e → e.sub = .listening expiry →
      base = causedState b q i m s → base.dir[i]? = some x →
      found = confirmCauses m.img b.reading s.route.active →
      ∃ v, exec .judgeBurst s =
            .next (finish s
              (finalVerdict b 0x14#8 (earlyFlags b m ||| if found = 0 then 0 else 0x200#32) (BitVec.ofNat 16 i)
                (readingAsked i (addCauses i found v)))) ∧
        VoteFrame i base v ∧
        v.poll =
          { base.poll with
            list := base.poll.list.filter (fun e => decide (e.index ≠ i)), answered := satInc base.poll.answered } ∧
        v.dir[i]? =
          some
            { x with
              state := .read, votes := x.votes + 1, lastCounter := some b.counter
              confirmed := some ⟨b.reading, b.stamp, freshFix b.fix b.stamp s.route.params.staleLimit⟩ } ∧
        v.route = { base.route with segs := movedSegs m.img.segment m.state .read base.route.segs } ∧
        v.ev = movedEvents m.img.segment m.state .read base.route.segs base.ev) ∧
  (∀ (b : Burst) (q : List Burst) (i : Nat) (m : Meter) (fl : Word) (s base : State), Judged b q i m s →
    OrdinaryFlags b i m s fl → base = causedState b q i m s →
    (Duplicate b m →
      exec .judgeBurst s = .next (finish s (finalVerdict b 0x13#8 fl (BitVec.ofNat 16 i) base))) ∧
      (∀ c, ¬Duplicate b m → m.state = .read → m.confirmed = some c →
        ((b.reading.unit = c.reading.unit ∧ c.reading.value.toNat ≤ b.reading.value.toNat ∧
            b.reading.value.toNat - c.reading.value.toNat ≤ s.route.active.drift.toNat) →
          exec .judgeBurst s =
            .next (finish s
              (finalVerdict b 0x12#8 fl (BitVec.ofNat 16 i)
                { base with
                  dir :=
                    base.dir.modify i fun x =>
                      { x with
                        lastCounter := some b.counter
                        repeats := if x.repeats = 0xFF#8 then 0xFF#8 else x.repeats + 1 } }))) ∧
          (¬(b.reading.unit = c.reading.unit ∧ c.reading.value.toNat ≤ b.reading.value.toNat ∧
              b.reading.value.toNat - c.reading.value.toNat ≤ s.route.active.drift.toNat) →
            exec .judgeBurst s =
              .next (finish s
                (finalVerdict b 0x10#8 (fl ||| 0x200#32) (BitVec.ofNat 16 i)
                  (addCauses i 0x80#8
                    { base with dir := base.dir.modify i fun x => { x with lastCounter := some b.counter } }))))))

/-- R48, R67: a held burst is judged in the route state a later command has produced, as if it were the one burst of the
Judge Queue then, whatever its slot mark; in CLOSING it gets ROUTE_CLOSING. -/
def Obligations.HeldBurstIsJudgedInTheRouteState : Prop :=
  ∀ (b : Burst) (q : List Burst) (s : State), Awake s → s.cap.deferred = b :: q →
    s.ins.isWaiting .captureUnit = false →
    (s.route.state = .closing →
      exec .deferredJudge s =
        .next (finish s
          (finalVerdict b 0x25#8 (flag b.overrun 8) 0xFFFF#16 { s with cap := { s.cap with deferred := q } }))) ∧
      (∀ alone, s.route.state ≠ .loading → alone = { s with cap := { s.cap with deferred := [], judgeQ := [b] } } →
        ∃ u, exec .judgeBurst alone = .next (finish alone u) ∧
          exec .deferredJudge s =
            .next (finish s { u with cap := { u.cap with judgeQ := s.cap.judgeQ, deferred := q } }))

/-- R109, R110: the causes found in a burst and at a confirmation, bit by bit (chapter 12.6).
R112, R119: an addition of causes makes a new entry of the Tamper List, or joins the one that stands for the meter.
R113, R115, R116: late causes request a NOTE, make an entry and re-lock the meter's first record.
R115: when a held-back re-lock header joins (releaseLocks): once the composition header of its slot has joined, with the marks
of that moment.  That a TAMPER_ACK's writes which the same joining releases come behind it is log entry 29 (DESIGN CHOICE;
stated with TamperAckRemovesTheOldest). -/
def Obligations.CausesFollowTheirConditions : Prop :=
  (∀ (img : MeterImage) (tc flags : Byte) (counter : Half) (r : Reading) (th : Thresholds),
      burstCauses img tc flags counter =
          ((if flags &&& 0x0F#8 = 0 then 0 else 0x01#8) ||| (if tc = img.typeCode then 0 else 0x02#8) |||
            (if img.hasCounter = true ∧
                ((counter - img.refCounter).toNat = 0 ∨ 32768 ≤ (counter - img.refCounter).toNat)
              then 0x04#8 else 0)) ∧
        (r.unit ≠ img.refReading.unit → confirmCauses img r th = 0) ∧
        (r.unit = img.refReading.unit → r.value.toNat < img.refReading.value.toNat →
          confirmCauses img r th = 0x08#8) ∧
        (∀ rise limit, r.unit = img.refReading.unit → img.refReading.value.toNat + rise = r.value.toNat →
          limit = (if img.maxDelta ≠ 0 then img.maxDelta.toNat else th.excess.toNat) →
          confirmCauses img r th =
            ((if limit ≠ 0 ∧ limit < rise then 0x10#8 else 0) |||
              (if img.mustConsume = true ∧ rise < th.low.toNat then 0x20#8 else 0)))) ∧
  (∀ (i : Nat) (set new : Byte) (m : Meter) (s base : State), s.dir[i]? = some m → new = set &&& ~~~m.causes →
      base = { s with dir := s.dir.modify i fun x => { x with causes := x.causes ||| new } } →
      (new = 0 → addCauses i set s = s) ∧
        (new ≠ 0 → m.first = none → m.causes = 0 →
          addCauses i set s =
            raise .tamper
              { base with
                tamper :=
                  if s.tamper.list.length < 128 then
                    { s.tamper with list := s.tamper.list ++ [⟨s.route.number, m.img.id, new, none⟩] }
                  else { s.tamper with overflow := satInc s.tamper.overflow } }) ∧
        (new ≠ 0 → ((m.first = none ∧ m.causes ≠ 0) ∨ (m.first ≠ none ∧ m.pendingNote = true)) →
          addCauses i set s =
            { base with
              tamper :=
                { s.tamper with
                  list :=
                    s.tamper.list.map fun e =>
                      if e.route = s.route.number ∧ e.meter = m.img.id ∧ e.slot = none then
                        { e with causes := e.causes ||| new }
                      else e } }) ∧
        (∀ f, new ≠ 0 → m.first = some f → m.pendingNote = false →
          ∃ u, addCauses i set s = u ∧
            u.dir = s.dir.modify i (fun x => { x with causes := x.causes ||| new, pendingNote := true }) ∧
            u.sm.backlog = s.sm.backlog ++ [.note i] ∧ u.ev = s.ev.occur .tamper ∧
            u.tamper =
              (if s.tamper.list.length < 128 then
                { s.tamper with list := s.tamper.list ++ [⟨s.route.number, m.img.id, m.causes ||| new, none⟩] }
              else { s.tamper with overflow := satInc s.tamper.overflow }) ∧
            ((∀ r, s.rowOf f.slot = some r → r.seq ≠ f.seq) → u.sm.slots = s.sm.slots ∧ u.ins = s.ins) ∧
            (∀ r, s.rowOf f.slot = some r → r.seq = f.seq →
              u.sm.slots = insertAt s.sm.slots f.slot (.record { r with locked := true }) ∧
                (headerPending s f.slot = true →
                  u.ins = { s.ins with laterLocks := s.ins.laterLocks ++ [f.slot] }) ∧
                (headerPending s f.slot = false →
                  u.ins =
                    { s.ins with
                      outbox :=
                        s.ins.outbox ++
                          [(.tamperUnit,
                            .word (recordAddr s.path.areaSel f.slot 0) (recordHeader r.kind true r.acked) false)] })))) ∧
  (∀ (s : State) (k : Nat),
      headerPending s k = true ↔
        (∃ r, s.rowOf k = some r ∧ r.state = .writing) ∧
          ((∃ h, s.ins.heldBody = some h ∧ h.slot = k) ∨
            ∃ e ∈ s.ins.waits, e.1 = .storeManager ∧
              ∃ data notify, QWrite.word (recordAddr s.path.areaSel k 0) data notify ∈ e.2)) ∧
  (∀ (t : State) (i : Inserts),
      (i.laterLocks = [] → releaseLocks t i = i) ∧
        (∀ pre k j, i.laterLocks = pre ++ [k] → j = releaseLocks t { i with laterLocks := pre } →
          releaseLocks t i =
            if headerJoined t j k then giveOne t j .tamperUnit (.header k)
            else { j with laterLocks := j.laterLocks ++ [k] }) ∧
        (∀ k, headerJoined t i k = true ↔
          (∀ h, i.heldBody = some h → h.slot ≠ k) ∧
            ∀ e ∈ i.waits, e.1 = .storeManager →
              ∀ data notify, QWrite.word (recordAddr t.path.areaSel k 0) data notify ∉ e.2))

/-! ### The load, the scan and the build -/

/-- R38, R39: the read of the route number ends the command or enters LOADING, where the load stands before header word 0
(R40).  The number reported with a parity error is the one handed over: log entry 26 (DEDUCED). -/
def Obligations.RouteNumberDecidesTheLoad : Prop :=
  ∀ (d : Disturb) (n : Half) (s base : State), Awake s → readReady s = true → s.sm.scan = .done →
    s.route.load = some .number → n = bits (readResult s d).1 0 16 →
    base = { completeRead d s with route := { s.route with load := none } } →
    ((readResult s d).2 = true →
      exec (.routeNumberRead d) s =
        .next (finish s (respond 0x40#8 [0xFFFFFFFF#32, 0, n.setWidth 32, 0] base))) ∧
      ((readResult s d).2 = false → n = 0 →
        exec (.routeNumberRead d) s = .next (finish s (respond 0x22#8 [0xFFFFFFFF#32, 0, 0, 0] base))) ∧
      ((readResult s d).2 = false → n ≠ 0 → (∃ e ∈ s.sm.roster, e.route = n) →
        exec (.routeNumberRead d) s =
          .next (finish s (respond 0x23#8 [0xFFFFFFFF#32, 0, n.setWidth 32, 0] base))) ∧
      ((readResult s d).2 = false → n ≠ 0 → (∀ e ∈ s.sm.roster, e.route ≠ n) → 16 ≤ s.sm.roster.length →
        exec (.routeNumberRead d) s =
          .next (finish s (respond 0x24#8 [0xFFFFFFFF#32, 0, n.setWidth 32, 0] base))) ∧
      ((readResult s d).2 = false → n ≠ 0 → (∀ e ∈ s.sm.roster, e.route ≠ n) → s.sm.roster.length < 16 →
        ∃ t, exec (.routeNumberRead d) s = .next t ∧ t.route.state = .loading ∧ t.route.number = n ∧
          t.sm.roster = s.sm.roster ++ [⟨n, 0, true⟩] ∧ t.cap.routeJudged = 0 ∧ t.cap.routeUnknown = 0 ∧
          t.cap.routeOverruns = 0 ∧ t.poll.sent = 0 ∧ t.poll.answered = 0 ∧ t.tamper.records = 0 ∧
          t.route.missed = 0 ∧ t.route.load = some (.header n [] 0xFFFFFFFF#32) ∧ t.dir = s.dir ∧
          t.sm.slots = s.sm.slots ∧ StoreKept s t)

/-- R13, R19: what an inserted read hands over: the newest queued data, or the store's answer with its parity checked; a read
that needs the store stands for one BCLK edge at least (R186; log entry 31, DESIGN CHOICE).
R38, R40, R41, R127, R149, R169: which word each engine reads next.  R13: the newest entry of a word.
R15: when the read has its turn; that a read waits as soon as its engine has a next word which no queued write answers, and how
the two take turns, is log entry 14 (DEDUCED); that a read command before its turn changes nothing is log entry 1 (DESIGN
CHOICE). -/
def Obligations.InsertedReadsAreCheckedAgainstParity : Prop :=
  (∀ (s : State) (d : Disturb) (a : Nat), nextRead s = some a →
    (∀ e, s.ins.newest a = some e → readResult s d = (e.data, false) ∧ completeRead d s = s) ∧
      (s.ins.newest a = none →
        (readResult s d).1 = s.store.word a ^^^ d.data ∧
          ((readResult s d).2 = true ↔ s.store.parity a ^^^ d.parity ≠ evenParity (s.store.word a ^^^ d.data)) ∧
          (completeRead d s).flt.storeError = (s.flt.storeError || (readResult s d).2) ∧
          (completeRead d s).flt.errorAddr = (if (readResult s d).2 then BitVec.ofNat 32 a else s.flt.errorAddr) ∧
          (completeRead d s).ev = (if (readResult s d).2 then s.ev.sample.occur .fault else s.ev.sample) ∧
          (completeRead d s).path.lastGrant = .insertedRead)) ∧
  (∀ s : State,
      (∀ k ws, s.sm.scan = .slots k ws → nextRead s = some (recordAddr s.path.areaSel k ws.length)) ∧
        (∀ k rest, s.sm.scan = .rebuild (k :: rest) none → nextRead s = some (recordAddr s.path.areaSel k 3)) ∧
        (∀ k rest id, s.sm.scan = .rebuild (k :: rest) (some id) →
          nextRead s = some (recordAddr s.path.areaSel k 5)) ∧
        (s.sm.scan = .done →
          (s.route.load = some .number → nextRead s = some (imageAddr s.path.areaSel 1)) ∧
            (∀ n ws crc, s.route.load = some (.header n ws crc) →
              nextRead s = some (imageAddr s.path.areaSel ws.length)) ∧
            (∀ n h i ws crc, s.route.load = some (.entry n h i ws crc) →
              nextRead s = some (entryAddr s.path.areaSel i ws.length)) ∧
            (∀ b it, s.route.load = none → s.up.batch = some b → b.state = .building →
              b.items[b.place]? = some it → nextRead s = some (recordAddr s.path.areaSel it.slot b.word)) ∧
            (s.route.load = none → (∀ b, s.up.batch = some b → b.state ≠ .building) → nextRead s = none))) ∧
  (∀ (i : Inserts) (a : Nat) (e : QEntry),
      (i.newest a = some e ↔
        ∃ pre post, i.entries = pre ++ e :: post ∧ e.addr = a ∧ ∀ x ∈ post, x.addr ≠ a) ∧
        (i.newest a = none ↔ ∀ x ∈ i.entries, x.addr ≠ a)) ∧
  (∀ s : State,
      (readReady s = true ↔
        ∃ a, nextRead s = some a ∧
          (s.ins.newest a ≠ none ∨
            (heldDue s = false ∧ (s.ins.entries = [] ∨ s.path.lastGrant = .queuedWrite)))) ∧
        (readWaits s = true ↔ ∃ a, nextRead s = some a ∧ s.ins.newest a = none) ∧
        (readReady s = false → ∀ d : Disturb,
          ∀ c ∈ [Instr.scanRead d, .scanRebuildRead d, .routeNumberRead d, .headerRead d, .entryRead d, .buildRead d],
            exec c s = .next s))

/-- R40, R41, R44: a header or entry word short of the last is taken into the load; a parity error undoes the load.
R40: the sixteenth header word ends the header: its ranges are met, or IMAGE_RANGE.
R41, R42, R43: the last word of an entry: IMAGE_RANGE, IMAGE_DUP, the next entry, IMAGE_CRC, or the route is OPEN. -/
def Obligations.LoadReadsTheImage : Prop :=
  (∀ (d : Disturb) (s : State), Awake s → readReady s = true → s.sm.scan = .done →
      (∀ n ws crc, s.route.load = some (.header n ws crc) → ws.length < 15 → (readResult s d).2 = false →
        exec (.headerRead d) s =
          .next (finish s
            { completeRead d s with
              route :=
                { s.route with
                  load := some (.header n (ws ++ [(readResult s d).1]) (crc32Word crc (readResult s d).1)) } })) ∧
        (∀ n h i ws crc, s.route.load = some (.entry n h i ws crc) → ws.length < 7 → (readResult s d).2 = false →
          exec (.entryRead d) s =
            .next (finish s
              { completeRead d s with
                route :=
                  { s.route with
                    load := some (.entry n h i (ws ++ [(readResult s d).1]) (crc32Word crc (readResult s d).1)) } })) ∧
        (∀ n ws crc, s.route.load = some (.header n ws crc) → (readResult s d).2 = true →
          ∃ u, exec (.headerRead d) s = .next (finish s u) ∧ LoadUndone s u 0x40#8 0xFFFFFFFF#32 0 n ∧
            u.flt.storeError = true) ∧
        (∀ n h i ws crc, s.route.load = some (.entry n h i ws crc) → (readResult s d).2 = true →
          ∃ u, exec (.entryRead d) s = .next (finish s u) ∧ LoadUndone s u 0x40#8 (BitVec.ofNat 32 i) 0 n ∧
            u.flt.storeError = true) ∧
        (∀ n ws crc hdr, s.route.load = some (.header n ws crc) → ws.length = 15 → (readResult s d).2 = false →
          hdr = ws ++ [(readResult s d).1] →
          (HeaderInRange hdr n →
            exec (.headerRead d) s =
              .next (finish s
                { completeRead d s with route := { s.route with load := some (.entry n hdr 0 [] crc) } })) ∧
            (¬HeaderInRange hdr n →
              ∃ u, exec (.headerRead d) s = .next (finish s u) ∧ LoadUndone s u 0x22#8 0xFFFFFFFF#32 0 n))) ∧
  (∀ (d : Disturb) (n : Half) (h ws full : List Word) (i : Nat) (crc reg w : Word) (s : State),
      Awake s → readReady s = true → s.sm.scan = .done → s.route.load = some (.entry n h i ws crc) → ws.length = 7 →
      readResult s d = (w, false) → full = ws ++ [w] → reg = crc32Word crc w →
      ((bits (h.getD 2 0) 16 16).toNat ≤ (bits (full.getD 2 0) 0 16).toNat →
        ∃ u, exec (.entryRead d) s = .next (finish s u) ∧ LoadUndone s u 0x22#8 (BitVec.ofNat 32 i) 0 n) ∧
        ((bits (full.getD 2 0) 0 16).toNat < (bits (h.getD 2 0) 16 16).toNat → storedPath full = none →
          ∃ u, exec (.entryRead d) s = .next (finish s u) ∧ LoadUndone s u 0x22#8 (BitVec.ofNat 32 i) 0 n) ∧
        (∀ stored j, (bits (full.getD 2 0) 0 16).toNat < (bits (h.getD 2 0) 16 16).toNat →
          storedPath full = some stored → findMeter s.dir (full.getD 0 0) = some j →
          ∃ u, exec (.entryRead d) s = .next (finish s u) ∧
            LoadUndone s u 0x21#8 (BitVec.ofNat 32 i) (BitVec.ofNat 32 j) n) ∧
        (∀ stored, (bits (full.getD 2 0) 0 16).toNat < (bits (h.getD 2 0) 16 16).toNat →
          storedPath full = some stored → findMeter s.dir (full.getD 0 0) = none →
          (i + 1 < (bits (h.getD 2 0) 0 16).toNat →
            exec (.entryRead d) s =
              .next (finish s
                { completeRead d s with
                  dir := s.dir ++ [loadedMeter full stored]
                  route := { s.route with load := some (.entry n h (i + 1) [] reg) } })) ∧
            (i + 1 = (bits (h.getD 2 0) 0 16).toNat → crc32Final reg ≠ h.getD 15 0 →
              ∃ u, exec (.entryRead d) s = .next (finish s u) ∧
                LoadUndone s u 0x20#8 0xFFFFFFFF#32 (crc32Final reg) n) ∧
            (i + 1 = (bits (h.getD 2 0) 0 16).toNat → crc32Final reg = h.getD 15 0 →
              ∃ t, exec (.entryRead d) s = .next (finish s t) ∧ t.route.state = .opened ∧ t.route.number = s.route.number ∧
                t.dir = s.dir ++ [loadedMeter full stored] ∧ t.route.activeSeg = none ∧ t.route.load = none ∧
                t.route.segs.length = (bits (h.getD 2 0) 16 16).toNat ∧ (∀ g ∈ t.route.segs, g.state = .waiting) ∧
                (∀ g x, t.route.segs[g]? = some x → x.unresolved = t.dir.countP fun m => decide (m.img.segment = g)) ∧
                t.route.active = t.route.staged ∧ t.route.active.floor = bits (h.getD 6 0) 0 16 ∧
                t.route.active.excess = h.getD 7 0 ∧ t.route.active.low = h.getD 8 0 ∧
                t.route.active.drift = bits (h.getD 6 0) 16 16 ∧
                t.route.params =
                  ⟨bits (h.getD 2 0) 0 16, bits (h.getD 2 0) 16 16, bits (h.getD 3 0) 0 8, bits (h.getD 3 0) 8 8,
                    bits (h.getD 4 0) 0 16, bits (h.getD 4 0) 16 16, bits (h.getD 5 0) 0 16,
                    bits (h.getD 5 0) 16 16⟩ ∧
                t.cap.deferred = s.cap.deferred ∧ t.sm = s.sm ∧ t.poll = s.poll ∧
                t.ins = { s.ins with outbox := s.ins.outbox ++ [(.commandUnit, .respond)] } ∧
                AnswersWith s t 0x00#8
                  [(bits (h.getD 2 0) 0 16).setWidth 32, (bits (h.getD 2 0) 16 16).setWidth 32, n.setWidth 32,
                    BitVec.ofNat 32 s.cap.deferred.length]))) ∧
  (∀ (ws : List Word) (hops : Byte), hops = bits (ws.getD 1 0) 16 8 →
      (hops = 0xFF#8 → storedPath ws = some none) ∧
        (hops.toNat ≤ 2 →
          storedPath ws =
            some (some
              ⟨hops, if hops = 0 then 0 else ws.getD 6 0, if hops = 2 then ws.getD 7 0 else 0⟩)) ∧
        (hops ≠ 0xFF#8 → 2 < hops.toNat → storedPath ws = none))

/-- R149 to R151: the scan reads three words a slot and decides the slot's finding (SlotDecided), the roster and the highest
sequence number; R132: which headers are valid.
R152, R143: slot 8191 ends the scan, with STORE_LOW where few slots are free, or begins the rebuild in sequence order (R141).
R127: the rebuild reads words 3 and 5 and creates a Tamper List entry, raising TAMPER; a parity error quarantines. -/
def Obligations.ScanClassifiesAndRebuilds : Prop :=
  (∀ (d : Disturb) (k : Nat) (ws : List Word) (s : State), Awake s → readReady s = true → s.sm.scan = .slots k ws →
      (ws.length < 2 → (readResult s d).2 = false →
        exec (.scanRead d) s =
          .next (finish s { completeRead d s with sm := { s.sm with scan := .slots k (ws ++ [(readResult s d).1]) } })) ∧
        (∀ fs ro hi base, SlotDecided s k ws (readResult s d).1 (readResult s d).2 fs ro hi →
          base =
            { completeRead d s with
              sm :=
                { s.sm with
                  findings := fs, workRoster := ro, highest := hi
                  nextSeq := match hi with
                    | none => 1
                    | some x => x + 1 } } →
          (k < 8191 →
            exec (.scanRead d) s =
              .next (finish s
                { completeRead d s with
                  sm := { s.sm with scan := .slots (k + 1) [], findings := fs, workRoster := ro, highest := hi } })) ∧
            (k = 8191 → (∀ e ∈ fs, ∀ r, e.2 = .record r → r.locked = true → r.acked = true) →
              ∃ u, exec (.scanRead d) s = .next (finish s u) ∧ ScanEnded base u) ∧
            (k = 8191 → risingFrom 0 fs = true → (∃ j r, ToRebuild fs j r) →
              ∃ l, exec (.scanRead d) s =
                    .next (finish s { base with sm := { base.sm with scan := .rebuild l none } }) ∧
                (∀ j, j ∈ l ↔ ∃ r, ToRebuild fs j r) ∧
                l.Pairwise fun x y =>
                  ∀ rx ry, ToRebuild fs x rx → ToRebuild fs y ry → rx.seq < ry.seq ∨ (rx.seq = ry.seq ∧ x < y)))) ∧
  (∀ (d : Disturb) (k : Nat) (rest : List Nat) (s : State), Awake s → readReady s = true →
      (s.sm.scan = .rebuild (k :: rest) none → (readResult s d).2 = false →
        exec (.scanRebuildRead d) s =
          .next (finish s
            { completeRead d s with
              sm := { s.sm with scan := .rebuild (k :: rest) (some (readResult s d).1) } })) ∧
        (∀ meter r base, s.sm.scan = .rebuild (k :: rest) meter → lookup s.sm.findings k = some (.record r) →
          (((readResult s d).2 = false ∧ ∃ id, meter = some id ∧
              base =
                raise .tamper
                  { completeRead d s with
                    tamper :=
                      if s.tamper.list.length < 128 then
                        { s.tamper with
                          list := s.tamper.list ++ [⟨r.route, id, bits (readResult s d).1 24 8, some k⟩] }
                      else { s.tamper with overflow := satInc s.tamper.overflow } }) ∨
            ((readResult s d).2 = true ∧
              base =
                { completeRead d s with
                  sm :=
                    { s.sm with
                      findings := insertAt s.sm.findings k .quarantined
                      workRoster :=
                        (s.sm.workRoster.map fun e =>
                          if e.route = r.route then { e with count := e.count - 1 } else e).filter fun e =>
                            !(decide (e.route = r.route) && decide (e.count = 0) && !e.isOpen) } })) →
          (rest ≠ [] →
            exec (.scanRebuildRead d) s =
              .next (finish s { base with sm := { base.sm with scan := .rebuild rest none } })) ∧
            (rest = [] → ∃ u, exec (.scanRebuildRead d) s = .next (finish s u) ∧ ScanEnded base u))) ∧
  (∀ (w0 w1 w2 : Word) (kind : Kind),
      validHeader w0 w1 w2 = some kind ↔
        bits w0 0 8 = 0xA5#8 ∧ bits w0 8 8 = BitVec.ofNat 8 (kindCode kind) ∧ bits w0 18 14 = 0#14 ∧ w1 ≠ 0 ∧
          bits w2 0 16 ≠ 0#16)

/-- R169, R172: the build takes one word; a record's last word gives its manifest entry; a parity error ends the build.
R170: the last record's last word ends the build: the digest over all manifest entries, OPEN or FETCHED, the manifest header
and the response. -/
def Obligations.BuildTakesOneWordAtATime : Prop :=
  ∀ (d : Disturb) (b : Batch) (it : BatchItem) (w value : Word) (s : State) (entry : List (Producer × QWrite)),
    Awake s → readReady s = true → s.sm.scan = .done → s.route.load = none → s.up.batch = some b →
    b.state = .building → b.items[b.place]? = some it → value = crc32Final (crc32Word b.crc w) →
    entry =
      [(.uploadUnit, .word (manifestEntryAddr s.path.areaSel b.place 0) (BitVec.ofNat 32 it.slot) false),
        (.uploadUnit, .word (manifestEntryAddr s.path.areaSel b.place 1) value false)] →
    (readResult s d = (w, false) → b.word < 15 →
      exec (.buildRead d) s =
        .next (finish s
          { completeRead d s with
            up := { s.up with batch := some { b with word := b.word + 1, crc := crc32Word b.crc w } } })) ∧
      (readResult s d = (w, false) → 15 ≤ b.word → b.place + 1 < b.items.length →
        exec (.buildRead d) s =
          .next (finish s
            { completeRead d s with
              up :=
                { s.up with
                  batch :=
                    some
                      { b with
                        items := b.items.modify b.place fun x => { x with crc := value }
                        place := b.place + 1, word := 1, crc := 0xFFFFFFFF#32 } }
              ins := { s.ins with outbox := s.ins.outbox ++ entry } })) ∧
      (∀ items digest first last st, readResult s d = (w, false) → 15 ≤ b.word → b.place + 1 = b.items.length →
        items = b.items.modify b.place (fun x => { x with crc := value }) →
        digest =
          crc32Final
            ((items.flatMap fun x => [BitVec.ofNat 32 x.slot, x.crc]).foldl crc32Word 0xFFFFFFFF#32) →
        items.head? = some first → items.getLast? = some last →
        (((∀ x ∈ items, x.mask = 0xFFFF#16) ∧ st = .fetched) ∨ ((∃ x ∈ items, x.mask ≠ 0xFFFF#16) ∧ st = .opened)) →
        ∃ u, exec (.buildRead d) s = .next (finish s u) ∧
          u.up = { s.up with batch := some { b with state := st, items := items, digest := digest } } ∧
          u.ins =
            { s.ins with
              outbox :=
                s.ins.outbox ++ entry ++
                  manifestGiven s.path.areaSel b.id (if st = .fetched then 3 else 2) items.length digest ++
                  [(.uploadUnit, .respond)] } ∧
          AnswersWith s u 0x00#8
            [b.id.setWidth 32, BitVec.ofNat 32 items.length, digest, first.seq, last.seq, BitVec.ofNat 32 b.left] ∧
          u.sm = s.sm ∧ u.tamper = s.tamper) ∧
      ((readResult s d).2 = true →
        ∃ u, exec (.buildRead d) s = .next (finish s u) ∧ u.up = { s.up with batch := none } ∧
          u.flt.storeError = true ∧
          (∀ x ∈ b.items, ∀ r, s.rowOf x.slot = some r → u.rowOf x.slot = some { r with state := .stored }) ∧
          u.ins =
            { s.ins with
              outbox :=
                s.ins.outbox ++ manifestGiven s.path.areaSel b.id 5 b.items.length 0 ++ [(.uploadUnit, .respond)] } ∧
          AnswersWith s u 0x40#8
            [b.id.setWidth 32, BitVec.ofNat 32 b.items.length, BitVec.ofNat 32 b.place, BitVec.ofNat 32 it.slot] ∧
          u.tamper = s.tamper ∧ u.dir = s.dir ∧ u.sm.backlog = s.sm.backlog)

/-! ### Records -/

/-- R138, R139, R142: the head of the Backlog is composed into the lowest FREE slot.
R133 to R135, R140: the sixteen words of the record, in the order in which they are given.
R114: the Tamper Unit's step.  R177: the record is given once no EMPTY write of its slot waits.
R131: what the free, stored, in-batch and quarantined counts count. -/
def Obligations.CompositionTakesTheHead : Prop :=
  (∀ (req : Request) (rest : List Request) (k : Nat) (s : State), Awake s → s.sm.scan = .done →
      s.sm.backlog = req :: rest → 0 < s.freeCount → s.faultLatched = false → s.sm.nextSeq ≠ 0 →
      s.ins.isWaiting .storeManager = false → s.ins.heldBody = none → risingFrom 0 s.sm.slots = true →
      lookup s.sm.slots k = none → (∀ j, j < k → lookup s.sm.slots j ≠ none) →
      (∀ routeMeters, req = .summary →
        routeMeters = (if s.route.state = .opened ∨ s.route.state = .closing then s.dir else []) →
        ∃ u, exec .composition s = .next (finish s u) ∧ u.sm.backlog = rest ∧ u.sm.nextSeq = s.sm.nextSeq + 1 ∧
          u.sm.slots =
            insertAt s.sm.slots k (.record ⟨.writing, .summary, s.sm.nextSeq, s.route.number, false, false⟩) ∧
          u.dir = s.dir ∧ u.tamper = s.tamper ∧
          u.sm.roster =
            s.sm.roster.map (fun e => if e.route = s.route.number then { e with count := e.count + 1 } else e) ∧
          u.route = s.route ∧ u.store = s.store ∧
          u.ev = (if s.freeCount = 257 then s.ev.occur .storeLow else s.ev) ∧
          u.ins =
            { s.ins with
              heldBody :=
                some
                  ⟨k, recordGiven s.path.areaSel k
                    [s.sm.nextSeq, s.route.number.setWidth 32, 0, BitVec.ofNat 32 routeMeters.length,
                      BitVec.ofNat 32 (routeMeters.countP fun m => decide (m.state = .read)),
                      s.route.missed.setWidth 32,
                      BitVec.ofNat 32 (routeMeters.countP fun m => decide (m.state = .unreachable)),
                      s.tamper.records.setWidth 32, s.poll.sent.setWidth 32, s.poll.answered.setWidth 32,
                      s.cap.routeJudged.setWidth 32, s.cap.routeUnknown.setWidth 32,
                      s.cap.routeOverruns.setWidth 32, 0, 0]
                    0x000004A5#32⟩ }) ∧
        (∀ i m c word13,
          ((req = .reading i ∧ word13 = 0) ∨
            (∃ reason, req = .miss i reason ∧ word13 = BitVec.ofNat 32 (missReasonCode reason)) ∨
            (req = .note i ∧ word13 = (m.first.map fun f => f.seq).getD 0)) →
          s.dir[i]? = some m → RecordSource m c →
          ∃ u, exec .composition s = .next (finish s u) ∧ u.sm.backlog = rest ∧ u.sm.nextSeq = s.sm.nextSeq + 1 ∧
            u.sm.slots =
              insertAt s.sm.slots k
                (.record
                  ⟨.writing, req.kind, s.sm.nextSeq, s.route.number, decide (m.causes ≠ 0), m.ackPending⟩) ∧
            u.sm.roster =
              s.sm.roster.map (fun e => if e.route = s.route.number then { e with count := e.count + 1 } else e) ∧
            (req ≠ .note i →
              u.dir[i]? =
                some { m with first := some ⟨k, s.sm.nextSeq⟩, written := m.causes, ackPending := false }) ∧
            (req = .note i →
              u.dir[i]? = some { m with written := m.causes, ackPending := false, pendingNote := false }) ∧
            (∀ j, j ≠ i → u.dir[j]? = s.dir[j]?) ∧
            u.tamper.records = (if m.causes = 0 then s.tamper.records else satInc s.tamper.records) ∧
            u.tamper.overflow = s.tamper.overflow ∧
            ((m.ackPending = true ∨ m.causes = 0) → u.tamper.list = s.tamper.list) ∧
            (∀ pre e post, m.ackPending = false → m.causes ≠ 0 → s.tamper.list = pre ++ e :: post →
              (e.route = s.route.number ∧ e.meter = m.img.id ∧ e.slot = none) →
              (∀ x ∈ pre, ¬(x.route = s.route.number ∧ x.meter = m.img.id ∧ x.slot = none)) →
              u.tamper.list = pre ++ { e with slot := some k, causes := m.causes } :: post) ∧
            (m.ackPending = false → m.causes ≠ 0 →
              (∀ x ∈ s.tamper.list, ¬(x.route = s.route.number ∧ x.meter = m.img.id ∧ x.slot = none)) →
              u.tamper.list = s.tamper.list) ∧
            u.store = s.store ∧ u.ev = (if s.freeCount = 257 then s.ev.occur .storeLow else s.ev) ∧
            u.ins =
              { s.ins with
                heldBody :=
                  some
                    ⟨k, recordGiven s.path.areaSel k (meterWords m c s.sm.nextSeq s.route.number m.causes word13)
                      (recordHeader req.kind (decide (m.causes ≠ 0)) m.ackPending)⟩ })) ∧
  (∀ (t : State) (i : Inserts) (sel : BitVec 3) (k : Nat) (body : List Word) (header : Word),
      i.heldBody = some ⟨k, recordGiven sel k body header⟩ →
      ((∃ e ∈ i.waits, e.1 = .uploadUnit ∧
          ∃ data notify, QWrite.word (recordAddr t.path.areaSel k 0) data notify ∈ e.2) → releaseBody t i = i) ∧
        (i.waits = [] → i.entries.length + 16 ≤ 64 →
          (releaseBody t i).heldBody = none ∧
            (releaseBody t i).entries =
              i.entries ++
                (List.range 15).map (fun n => ⟨recordAddr sel k (n + 1), body.getD n 0, .storeManager, false⟩) ++
                [⟨recordAddr sel k 0, header, .storeManager, true⟩])) ∧
  (∀ s : State, s.sm.scan = .done → risingFrom 0 s.sm.slots = true → (∀ e ∈ s.sm.slots, e.1 < 8192) →
      s.freeCount = (List.range 8192).countP (fun k => decide (s.slotState k = .free)) ∧
        s.storedCount = (List.range 8192).countP (fun k => decide (s.slotState k = .stored)) ∧
        s.inBatchCount = (List.range 8192).countP (fun k => decide (s.slotState k = .inBatch)) ∧
        s.quarantinedCount = (List.range 8192).countP (fun k => decide (s.slotState k = .quarantined)))

/-! ### Polls -/

/-- R96, R97: a frame is begun for the QUEUED entry nearest the head, in the next FREE slot of the ring, over the learned
path, else the stored path, else directly; its eight words. -/
def Obligations.FrameTakesTheFirstQueuedEntry : Prop :=
  ∀ (pre post : List PollEntry) (e : PollEntry) (m : Meter) (n k : Nat) (path : RelayPath) (tag : Half)
    (ws : List Word) (s : State), Awake s → s.ins.isWaiting .pollUnit = false → s.inFlightCount < 8 →
    s.poll.list = pre ++ e :: post → e.sub = .queued → (∀ x ∈ pre, x.sub ≠ .queued) →
    n < 32 → k = (s.poll.ringPos + n) % 32 → s.txState k = .free →
    (∀ j, j < n → s.txState ((s.poll.ringPos + j) % 32) ≠ .free) → s.dir[e.index]? = some m →
    ((∃ l, m.learned = some l ∧ path = l.path) ∨ (m.learned = none ∧ m.img.stored = some path) ∨
      (m.learned = none ∧ m.img.stored = none ∧ path = ⟨0, 0, 0⟩)) →
    tag = (if s.poll.tag = 0xFFFF#16 then 1 else s.poll.tag + 1) →
    ws =
      [m.img.id, 3#32 ||| (path.hops.setWidth 32 <<< 8) ||| (e.attempt.setWidth 32 <<< 16), path.hop1, path.hop2,
        tag.setWidth 32,
        BitVec.ofNat 32 (s.route.params.listenBase.toNat + s.route.params.listenHop.toNat * path.hops.toNat)] →
    ∃ u, exec .frameBegin s = .next (finish s u) ∧ u.poll.ringPos = (k + 1) % 32 ∧ u.txState k = .awaiting ∧
      (∀ j, j ≠ k → u.txState j = s.txState j) ∧ u.poll.tag = tag ∧
      u.poll.list =
        s.poll.list.map (fun x => if x.index = e.index then { x with sub := .inRing k, path := some path } else x) ∧
      u.dir[e.index]? = some { m with attempts := e.attempt } ∧ (∀ j, j ≠ e.index → u.dir[j]? = s.dir[j]?) ∧
      u.poll.sent = s.poll.sent ∧ u.poll.answered = s.poll.answered ∧ u.sm = s.sm ∧ u.route = s.route ∧ u.ev = s.ev ∧
      u.store = s.store ∧
      u.ins =
        { s.ins with
          outbox :=
            s.ins.outbox ++
              (List.range 6).map (fun x =>
                (Producer.pollUnit, QWrite.word (txAddr s.path.areaSel k x) (ws.getD x 0) false)) ++
              [(.pollUnit, .word (txAddr s.path.areaSel k 6) ((crc16 (wordBytes ws)).setWidth 32) false),
                (.pollUnit, .word (txAddr s.path.areaSel k 7) 0x0000A001#32 false)] }

/-- R98, R99, R102, R106: a report frees its slot; DONE opens the listen window, FAILED starts a hold-off, or on the last
attempt makes the meter UNREACHABLE with POLL_FAILED; a slot whose entry is gone is freed and nothing else happens.
R85: the segment of that meter, and SEGMENT_DONE.
R14, R100: in every state, so also where a READY of the word is still queued, a report is the upstream write of its word with
all byte enables (PlainAccessesPass says what that one does to a queued READY). -/
def Obligations.ReportFreesTheSlot : Prop :=
  (∀ (k : BitVec 5) (w : BusWord) (s base : State), BusFree s → NotQueued s (txAddr s.path.areaSel k.toNat 7) →
    canonical TxState.free s.poll.tx = true → base = written (txAddr s.path.areaSel k.toNat 7) w allLanes s →
    (s.txState k.toNat = .free → exec (.txReport k w) s = .next (finish s base)) ∧
      (w.data ≠ 0x0000D001#32 → w.data ≠ 0x0000F001#32 → exec (.txReport k w) s = .next (finish s base)) ∧
      (s.txState k.toNat = .awaiting → (w.data = 0x0000D001#32 ∨ w.data = 0x0000F001#32) →
        inRingAt s k.toNat = none →
        ∃ u, exec (.txReport k w) s = .next (finish s u) ∧ u = { base with poll := u.poll } ∧
          u.poll = { s.poll with tx := u.poll.tx } ∧ u.txState k.toNat = .free ∧
          ∀ j, j ≠ k.toNat → u.txState j = s.txState j) ∧
      (∀ e p, s.txState k.toNat = .awaiting → w.data = 0x0000D001#32 → inRingAt s k.toNat = some e → e.path = some p →
        ∃ t, exec (.txReport k w) s = .next t ∧ t.txState k.toNat = .free ∧
          (∀ j, j ≠ k.toNat → t.txState j = s.txState j) ∧ t.store = base.store ∧ t.path = base.path ∧
          t.poll.sent = satInc s.poll.sent ∧
          t.poll.list =
            s.poll.list.map (fun x =>
              if x.index = e.index then
                { x with
                  sub :=
                    .listening
                      (s.clk.ms +
                        BitVec.ofNat 32 (s.route.params.listenBase.toNat + s.route.params.listenHop.toNat * p.hops.toNat)) }
              else x) ∧
          t.dir = s.dir ∧ t.ev = s.ev ∧ t.sm = s.sm) ∧
      (∀ e, s.txState k.toNat = .awaiting → w.data = 0x0000F001#32 → inRingAt s k.toNat = some e →
        (e.attempt.toNat < s.route.params.pollRetries.toNat + 1 →
          ∃ t, exec (.txReport k w) s = .next t ∧ t.txState k.toNat = .free ∧
            (∀ j, j ≠ k.toNat → t.txState j = s.txState j) ∧ t.store = base.store ∧ t.path = base.path ∧
            t.poll.sent = s.poll.sent ∧
            t.poll.list =
              s.poll.list.map (fun x =>
                if x.index = e.index then
                  { x with sub := .holdoff (s.clk.ms + s.route.params.holdoff.setWidth 32) } else x) ∧
            t.dir = s.dir ∧ t.ev = s.ev ∧ t.sm = s.sm) ∧
          (∀ m, s.route.params.pollRetries.toNat + 1 ≤ e.attempt.toNat → s.dir[e.index]? = some m →
            ∃ t, exec (.txReport k w) s = .next t ∧ t.txState k.toNat = .free ∧
              (∀ j, j ≠ k.toNat → t.txState j = s.txState j) ∧ t.store = base.store ∧ t.path = base.path ∧
              t.poll.sent = s.poll.sent ∧
              t.poll.list = s.poll.list.filter (fun x => decide (x.index ≠ e.index)) ∧
              t.dir[e.index]? = some { m with state := .unreachable } ∧
              (∀ j, j ≠ e.index → t.dir[j]? = s.dir[j]?) ∧ t.ev.marks.getLsbD 2 = true ∧ t.sm = s.sm ∧
              t.cap = s.cap ∧ t.tamper = s.tamper ∧
              t.route = { s.route with segs := movedSegs m.img.segment m.state .unreachable s.route.segs } ∧
              t.ev = (movedEvents m.img.segment m.state .unreachable s.route.segs s.ev).occur .pollFailed))) ∧
  (∀ (k : BitVec 5) (w : BusWord) (s : State),
      exec (.txReport k w) s =
        exec (.upstreamWrite (BitVec.ofNat 32 (txAddr s.path.areaSel k.toNat 7)) w allLanes) s)

/-- R101, R102: an expiry with attempts left starts a hold-off; the last one makes the meter UNREACHABLE, with what R85 does
to its segment.
R103: at the release the entry joins the tail QUEUED with the next attempt number and no path. -/
def Obligations.ExpiryAndReleaseMoveTheAttempt : Prop :=
  (∀ (e : PollEntry) (m : Meter) (expiry : Word) (s : State), Awake s → pollOf s e.index = some e →
      e.sub = .listening expiry → s.flt.clockLost = false → (s.clk.ms - expiry).toNat < 2 ^ 31 →
      s.dir[e.index]? = some m →
      (e.attempt.toNat < s.route.params.pollRetries.toNat + 1 →
        exec (.listenExpiry e.index) s =
          .next (finish s
            { s with
              poll :=
                { s.poll with
                  list :=
                    s.poll.list.map (fun x =>
                      if x.index = e.index then
                        { x with sub := .holdoff (s.clk.ms + s.route.params.holdoff.setWidth 32) } else x) } })) ∧
        (s.route.params.pollRetries.toNat + 1 ≤ e.attempt.toNat →
          ∃ t, exec (.listenExpiry e.index) s = .next t ∧
            t.poll = { s.poll with list := s.poll.list.filter (fun x => decide (x.index ≠ e.index)) } ∧
            t.dir[e.index]? = some { m with state := .unreachable } ∧ t.ev.marks.getLsbD 2 = true ∧ t.sm = s.sm ∧
            t.cap = s.cap ∧ t.tamper = s.tamper ∧ (∀ j, j ≠ e.index → t.dir[j]? = s.dir[j]?) ∧
            t.route = { s.route with segs := movedSegs m.img.segment m.state .unreachable s.route.segs } ∧
            t.ev = (movedEvents m.img.segment m.state .unreachable s.route.segs s.ev).occur .pollFailed)) ∧
  (∀ (e : PollEntry) (release : Word) (s : State), Awake s → pollOf s e.index = some e → e.sub = .holdoff release →
      s.flt.clockLost = false → (s.clk.ms - release).toNat < 2 ^ 31 →
      exec (.holdoffRelease e.index) s =
        .next (finish s
          { s with
            poll :=
              { s.poll with
                list :=
                  s.poll.list.filter (fun x => decide (x.index ≠ e.index)) ++
                    [⟨e.index, e.attempt + 1, none, .queued⟩] } }))

/-! ### Fetch, clock, sleep -/

/-- R173, R174: a read of a word of a slot in the batch, served from the queue or by the store, sets its fetch bit; the last
one makes an OPEN batch FETCHED and gives the manifest header. -/
def Obligations.ReadsSetFetchBits : Prop :=
  ∀ (k : BitVec 13) (w be : BitVec 4) (d : Disturb) (answer : BusWord) (s base : State), BusFree s →
    Answers s (recordAddr s.path.areaSel k.toNat w.toNat) d answer →
    base = answered (recordAddr s.path.areaSel k.toNat w.toNat) answer s →
    (s.slotState k.toNat ≠ .inBatch → exec (.readingStoreRead k w be d) s = .next (finish s base)) ∧
      (∀ b items, s.slotState k.toNat = .inBatch → s.up.batch = some b →
        items = b.items.map (fun x => if x.slot = k.toNat then { x with mask := x.mask ||| (1#16 <<< w.toNat) } else x) →
        ((b.state ≠ .opened ∨ ∃ x ∈ items, x.mask ≠ 0xFFFF#16) →
          exec (.readingStoreRead k w be d) s =
            .next (finish s { base with up := { s.up with batch := some { b with items := items } } })) ∧
          (b.state = .opened → (∀ x ∈ items, x.mask = 0xFFFF#16) →
            exec (.readingStoreRead k w be d) s =
              .next (finish s
                { base with
                  up := { s.up with batch := some { b with items := items, state := .fetched } }
                  ins :=
                    { s.ins with
                      outbox := s.ins.outbox ++ manifestGiven s.path.areaSel b.id 3 items.length b.digest } })))

/-- R56, R193: REFCLK edges, the clock's advance, and the loss of the clock.
That REFCLK_RISING_EDGE takes no sample of SLEEP_IND and no cycle of a WAKE pulse is log entry 35 (DESIGN CHOICE).  That
ROUTE_CLOCK_ADVANCE and CLOCK_LOST stand for all edges up to their event and move no other count is log entry 6 (DESIGN
CHOICE). -/
def Obligations.ClockFollowsRefclk : Prop :=
  ∀ s : State, Awake s →
    (s.flt.clockLost = true →
      exec .refclkRisingEdge s = .next (finish s { s with flt := { s.flt with detector := 0 } })) ∧
      (s.flt.clockLost = false → s.clk.divider ≠ 1023 →
        exec .refclkRisingEdge s =
          .next (finish s
            { s with
              flt := { s.flt with detector := 0 }, clk := { s.clk with divider := s.clk.divider + 1 } })) ∧
      (s.flt.clockLost = false → s.clk.divider = 1023 →
        exec .refclkRisingEdge s =
          .next (finish s { s with flt := { s.flt with detector := 0 }, clk := ⟨s.clk.ms + 1, 0⟩ })) ∧
      (s.flt.clockLost = false →
        exec .routeClockAdvance s =
          .next (finish s { s with flt := { s.flt with detector := 0 }, clk := ⟨s.clk.ms + 1, 0⟩ })) ∧
      (s.flt.clockLost = false →
        exec .clockLost s =
          .next (finish s
            { s with flt := { s.flt with clockLost := true, detector := 4096 }, ev := s.ev.occur .fault })) ∧
      (s.flt.clockLost = true →
        exec .clockLost s = .next (finish s { s with flt := { s.flt with detector := 4096 } }))

/-- R186, R187: a level shown at two BCLK edges is the starting sleep state, or a change of it with the pulse it asks for; a
level shown at one edge is neither.  The end of a pulse.
At an edge at which a running pulse ends the pulse is taken before the sample, so that a request raised there starts a new
pulse: log entry 30 (DESIGN CHOICE; R187 gives no order).  That WAKE_PULSE_END stands for all edges up to the end is log
entry 6 (DESIGN CHOICE). -/
def Obligations.SleepAndWake : Prop :=
  (∀ (b : Bool) (left : Nat) (s : State), Awake s → (s.flt.clockLost = true ∨ s.flt.detector + 2 < 4096) →
      left = (if s.ev.pulse.requested then 31 else s.ev.pulse.left - 2) →
      (s.ev.settled = true → s.ev.asleep ≠ b → s.ev.lastSample ≠ some b →
        ∃ t, exec (.sleepStateChange [b, b]) s = .next t ∧
          t.ev =
            { s.ev with
              sleepPin := b, lastSample := some b, asleep := b
              pulse := ⟨b && decide (s.ev.marks &&& s.ev.wake ≠ 0), left⟩ } ∧
          t.dir = s.dir ∧ t.sm = s.sm ∧ t.clk = s.clk ∧ StoreKept s t) ∧
        ((s.ev.settled = false ∨ s.ev.asleep = b) →
          ∃ t, exec (.sleepStateChange [b, b]) s = .next t ∧
            t.ev =
              { s.ev with
                sleepPin := b, lastSample := some b, asleep := b, settled := true, pulse := ⟨false, left⟩ } ∧
            t.dir = s.dir ∧ t.sm = s.sm ∧ t.clk = s.clk ∧ StoreKept s t) ∧
        (s.ev.settled = true → s.ev.asleep ≠ b → s.ev.lastSample = some s.ev.asleep →
          ∃ t, exec (.sleepStateChange [b, !b]) s = .next t ∧
            t.ev = { s.ev with sleepPin := !b, lastSample := some (!b), pulse := ⟨false, left⟩ })) ∧
  (∀ s : State, Awake s → 0 < s.ev.pulse.left →
      exec .wakePulseEnd s = .next (finish s { s with ev := { s.ev with pulse := ⟨false, 0⟩ } }))

/-- R184, R187: an occurrence sets its class's mark and asks for a pulse while ASLEEP with the wake bit set.
R185: ALERT_N is asserted exactly when a pending class is notify-enabled, and never while RESET_N is.
R183: the bit of each class. -/
def Obligations.OccurrencesSetMarksAndWake : Prop :=
  (∀ (c : EventClass) (s : State),
    (raise c s).ev.marks = s.ev.marks ||| c.mask ∧ (raise c s).ev.notify = s.ev.notify ∧
      (raise c s).ev.wake = s.ev.wake ∧
      (raise c s).ev.pulse.requested =
        (s.ev.pulse.requested || (s.ev.asleep && decide (s.ev.wake &&& c.mask ≠ 0))) ∧
      (Awake s → s.ev.notify &&& c.mask ≠ 0 → (raise c s).alert = true)) ∧
  (∀ s : State,
      (Awake s →
        (s.alert = true ↔ ∃ c : EventClass, s.ev.marks &&& c.mask ≠ 0 ∧ s.ev.notify &&& c.mask ≠ 0)) ∧
        (s.path.resetAsserted = true → s.alert = false)) ∧
  ([EventClass.tamper, .segmentDone, .pollFailed, .storeLow, .routeDone, .commandDone, .overrun, .blocked, .fault].map
      EventClass.mask = (List.range 9).map fun n => 1#9 <<< n)

end Slice0
end

