-- ==== Sys2Proof/Laws/Segments.lean ====
section
/-! SUPPORT. What the move of a meter from one state to another does, once and for all (R52, R85): later proofs cite
`setMeterState_eq` in place of unfolding it. -/
namespace Sys2Proof.Machine

theorem Segment.lower_eq :
    Segment.lower = fun x =>
      ⟨if x.state = .sweep ∧ x.unresolved ≤ 1 then .done else x.state, x.unresolved - 1⟩ := by
  funext x
  simp [Segment.lower, Nat.sub_eq_zero_iff_le]

theorem Segment.rise_eq : Segment.rise = fun x => ⟨x.state, x.unresolved + 1⟩ := rfl

theorem moveSegment_eq (g : Nat) (old new : MeterState) (s : State) :
    moveSegment g old new s =
      { s with
        route := { s.route with segs := movedSegs g old new s.route.segs }
        ev := movedEvents g old new s.route.segs s.ev } := by
  have hid : s.route.segs.modify g (fun x => x) = s.route.segs := List.modify_id g _
  unfold moveSegment movedSegs movedEvents Resolved
  rw [Segment.lower_eq, Segment.rise_eq]
  cases hs : s.route.segs[g]? with
  | none => cases old <;> cases new <;> simp [MeterState.resolved, hid]
  | some x =>
    by_cases hx : x.state = .sweep ∧ x.unresolved ≤ 1
    · cases old <;> cases new <;> simp [MeterState.resolved, hid, raise, hx]
    · cases old <;> cases new <;> simp [MeterState.resolved, hid, raise, hx] <;> simp_all

theorem setMeterState_eq {m : Meter} {i : Nat} (new : MeterState) {s : State} (h : s.dir[i]? = some m) :
    setMeterState i new s =
      { s with
        dir := s.dir.modify i fun x => { x with state := new }
        route := { s.route with segs := movedSegs m.img.segment m.state new s.route.segs }
        ev := movedEvents m.img.segment m.state new s.route.segs s.ev } := by
  unfold setMeterState
  rw [h]
  simp only [moveSegment_eq, modMeter]

end Sys2Proof.Machine
end

