-- ==== Sys2Proof/Laws/Sparse.lean ====
section
/-! SUPPORT. Sparse data by key: what a read gives after a write, and that a write keeps the canonical form. -/
namespace Sys2Proof.Machine

variable {α : Type}

theorem lookup_insertAt_same (m : List (Nat × α)) (a : Nat) (v : α) : lookup (insertAt m a v) a = some v := by
  induction m with
  | nil => simp [insertAt, lookup]
  | cons e m ih =>
    obtain ⟨k, w⟩ := e
    unfold insertAt
    split
    · simp [lookup]
    · split
      · simp [lookup]
      · rename_i h1 h2
        have : k ≠ a := fun h => h2 h.symm
        simp [lookup, this, ih]

theorem lookup_insertAt_other (m : List (Nat × α)) {a b : Nat} (v : α) (h : b ≠ a) :
    lookup (insertAt m a v) b = lookup m b := by
  induction m with
  | nil => simp [insertAt, lookup, h.symm]
  | cons e m ih =>
    obtain ⟨k, w⟩ := e
    unfold insertAt
    split
    · simp [lookup, h.symm]
    · split
      · rename_i h1 h2
        subst h2
        simp [lookup, h.symm]
      · simp [lookup, ih]

theorem lookup_eraseAt_other (m : List (Nat × α)) {a b : Nat} (h : b ≠ a) : lookup (eraseAt m a) b = lookup m b := by
  induction m with
  | nil => rfl
  | cons e m ih =>
    obtain ⟨k, w⟩ := e
    unfold eraseAt
    split
    · rename_i h2
      subst h2
      simp [lookup, h.symm]
    · simp [lookup, ih]

theorem risingFrom_weaken (m : List (Nat × α)) {lo hi : Nat} (h : risingFrom hi m = true) (hl : lo ≤ hi) :
    risingFrom lo m = true := by
  cases m with
  | nil => rfl
  | cons e m =>
    obtain ⟨k, w⟩ := e
    simp only [risingFrom, Bool.and_eq_true, decide_eq_true_eq] at h ⊢
    exact ⟨by omega, h.2⟩

theorem lookup_none_below (m : List (Nat × α)) {lo a : Nat} (h : risingFrom lo m = true) (ha : a < lo) :
    lookup m a = none := by
  induction m generalizing lo with
  | nil => rfl
  | cons e m ih =>
    obtain ⟨k, w⟩ := e
    simp only [risingFrom, Bool.and_eq_true, decide_eq_true_eq] at h
    have hk : k ≠ a := by omega
    simp [lookup, hk, ih h.2 (by omega)]

theorem lookup_eraseAt_same (m : List (Nat × α)) {lo : Nat} (a : Nat) (h : risingFrom lo m = true) :
    lookup (eraseAt m a) a = none := by
  induction m generalizing lo with
  | nil => rfl
  | cons e m ih =>
    obtain ⟨k, w⟩ := e
    simp only [risingFrom, Bool.and_eq_true, decide_eq_true_eq] at h
    unfold eraseAt
    split
    · rename_i hk
      subst hk
      exact lookup_none_below m h.2 (by omega)
    · rename_i hk
      simp [lookup, hk, ih h.2]

theorem risingFrom_insertAt (m : List (Nat × α)) {lo : Nat} (a : Nat) (v : α) (h : risingFrom lo m = true) (ha : lo ≤ a) :
    risingFrom lo (insertAt m a v) = true := by
  induction m generalizing lo with
  | nil => simp [insertAt, risingFrom, ha]
  | cons e m ih =>
    obtain ⟨k, w⟩ := e
    simp only [risingFrom, Bool.and_eq_true, decide_eq_true_eq] at h
    unfold insertAt
    split
    · simp only [risingFrom, Bool.and_eq_true, decide_eq_true_eq]
      exact ⟨ha, by omega, h.2⟩
    · split
      · rename_i h2
        subst h2
        simp only [risingFrom, Bool.and_eq_true, decide_eq_true_eq]
        exact ⟨ha, h.2⟩
      · simp only [risingFrom, Bool.and_eq_true, decide_eq_true_eq]
        exact ⟨h.1, ih h.2 (by omega)⟩

theorem risingFrom_eraseAt (m : List (Nat × α)) {lo : Nat} (a : Nat) (h : risingFrom lo m = true) :
    risingFrom lo (eraseAt m a) = true := by
  induction m generalizing lo with
  | nil => rfl
  | cons e m ih =>
    obtain ⟨k, w⟩ := e
    simp only [risingFrom, Bool.and_eq_true, decide_eq_true_eq] at h
    unfold eraseAt
    split
    · exact risingFrom_weaken m h.2 (by omega)
    · simp only [risingFrom, Bool.and_eq_true, decide_eq_true_eq]
      exact ⟨h.1, ih h.2⟩

theorem mem_eraseAt (m : List (Nat × α)) (a : Nat) {e : Nat × α} (h : e ∈ eraseAt m a) : e ∈ m := by
  induction m with
  | nil => exact h
  | cons x m ih =>
    obtain ⟨k, w⟩ := x
    unfold eraseAt at h
    split at h
    · exact List.mem_cons_of_mem _ h
    · rcases List.mem_cons.mp h with h | h
      · exact h ▸ List.mem_cons_self ..
      · exact List.mem_cons_of_mem _ (ih h)

theorem mem_insertAt (m : List (Nat × α)) (a : Nat) (v : α) {e : Nat × α} (h : e ∈ insertAt m a v) :
    e = (a, v) ∨ e ∈ m := by
  induction m with
  | nil => simpa [insertAt] using h
  | cons x m ih =>
    obtain ⟨k, w⟩ := x
    unfold insertAt at h
    split at h
    · exact List.mem_cons.mp h
    · split at h
      · rcases List.mem_cons.mp h with h | h
        · exact .inl h
        · exact .inr (List.mem_cons_of_mem _ h)
      · rcases List.mem_cons.mp h with h | h
        · exact .inr (h ▸ List.mem_cons_self ..)
        · rcases ih h with h | h
          · exact .inl h
          · exact .inr (List.mem_cons_of_mem _ h)

variable [DecidableEq α]

theorem canonical_iff (d : α) (m : List (Nat × α)) :
    canonical d m = true ↔ risingFrom 0 m = true ∧ ∀ e ∈ m, e.2 ≠ d := by
  simp [canonical, List.all_eq_true]

/-- A write keeps the canonical form. -/
theorem canonical_setD (d : α) (m : List (Nat × α)) (a : Nat) (v : α) (h : canonical d m = true) :
    canonical d (setD d m a v) = true := by
  rw [canonical_iff] at h ⊢
  unfold setD
  split
  · exact ⟨risingFrom_eraseAt m a h.1, fun e he => h.2 e (mem_eraseAt m a he)⟩
  · rename_i hv
    refine ⟨risingFrom_insertAt m a v h.1 (Nat.zero_le a), fun e he => ?_⟩
    rcases mem_insertAt m a v he with rfl | he
    · exact hv
    · exact h.2 e he

/-- A write leaves every other key as it was. -/
theorem getD_setD_other (d : α) (m : List (Nat × α)) {a b : Nat} (v : α) (h : b ≠ a) :
    getD d (setD d m a v) b = getD d m b := by
  unfold getD setD
  split
  · rw [lookup_eraseAt_other m h]
  · rw [lookup_insertAt_other m v h]

/-- In canonical data a written value reads back. -/
theorem getD_setD_same (d : α) (m : List (Nat × α)) (a : Nat) (v : α) (h : canonical d m = true) :
    getD d (setD d m a v) a = v := by
  unfold getD setD
  split
  · rename_i hv
    rw [lookup_eraseAt_same m a ((canonical_iff d m).mp h).1, hv]
    rfl
  · rw [lookup_insertAt_same]
    rfl

/-- A value that is not the default reads back whatever the form. -/
theorem getD_setD_same_of_ne (d : α) (m : List (Nat × α)) (a : Nat) {v : α} (hv : v ≠ d) :
    getD d (setD d m a v) a = v := by
  unfold getD setD
  rw [if_neg hv, lookup_insertAt_same]
  rfl

end Sys2Proof.Machine
end

