-- ==== Sys2Proof/Laws/State.lean ====
section
/-! SUPPORT. One lemma per field for the updates every block uses: each is true by definition. -/
namespace Sys2Proof.Machine

/-! ### The end of an event changes `ins` alone -/

@[simp] theorem finish_pending (s t : State) : (finish s t).pending = t.pending := rfl
@[simp] theorem finish_store (s t : State) : (finish s t).store = t.store := rfl
@[simp] theorem finish_path (s t : State) : (finish s t).path = t.path := rfl
@[simp] theorem finish_cmd (s t : State) : (finish s t).cmd = t.cmd := rfl
@[simp] theorem finish_clk (s t : State) : (finish s t).clk = t.clk := rfl
@[simp] theorem finish_cap (s t : State) : (finish s t).cap = t.cap := rfl
@[simp] theorem finish_dir (s t : State) : (finish s t).dir = t.dir := rfl
@[simp] theorem finish_route (s t : State) : (finish s t).route = t.route := rfl
@[simp] theorem finish_poll (s t : State) : (finish s t).poll = t.poll := rfl
@[simp] theorem finish_tamper (s t : State) : (finish s t).tamper = t.tamper := rfl
@[simp] theorem finish_sm (s t : State) : (finish s t).sm = t.sm := rfl
@[simp] theorem finish_up (s t : State) : (finish s t).up = t.up := rfl
@[simp] theorem finish_cutMarks (s t : State) : (finish s t).cutMarks = t.cutMarks := rfl
@[simp] theorem finish_ev (s t : State) : (finish s t).ev = t.ev := rfl
@[simp] theorem finish_flt (s t : State) : (finish s t).flt = t.flt := rfl
@[simp] theorem finish_ins (s t : State) : (finish s t).ins = finishInserts s t := rfl

/-- An event that changes no Status Page word gives its own writes alone. -/
theorem finishInserts_of_unchanged {s t : State} (h : changedStatus s t = []) :
    finishInserts s t =
      settle t (t.ins.outbox.foldl (fun j e => giveOne t j e.1 e.2) { t.ins with outbox := [] }) := by
  unfold finishInserts
  simp only [h, List.map_nil, interleave, List.length_nil, List.drop_zero, List.foldl_append, List.foldl_map,
    List.foldl_cons, List.foldl_nil, giveNext]

/-! ### Raising a class changes `ev` alone -/

@[simp] theorem raise_pending (c : EventClass) (s : State) : (raise c s).pending = s.pending := rfl
@[simp] theorem raise_store (c : EventClass) (s : State) : (raise c s).store = s.store := rfl
@[simp] theorem raise_path (c : EventClass) (s : State) : (raise c s).path = s.path := rfl
@[simp] theorem raise_cmd (c : EventClass) (s : State) : (raise c s).cmd = s.cmd := rfl
@[simp] theorem raise_clk (c : EventClass) (s : State) : (raise c s).clk = s.clk := rfl
@[simp] theorem raise_cap (c : EventClass) (s : State) : (raise c s).cap = s.cap := rfl
@[simp] theorem raise_dir (c : EventClass) (s : State) : (raise c s).dir = s.dir := rfl
@[simp] theorem raise_route (c : EventClass) (s : State) : (raise c s).route = s.route := rfl
@[simp] theorem raise_poll (c : EventClass) (s : State) : (raise c s).poll = s.poll := rfl
@[simp] theorem raise_tamper (c : EventClass) (s : State) : (raise c s).tamper = s.tamper := rfl
@[simp] theorem raise_sm (c : EventClass) (s : State) : (raise c s).sm = s.sm := rfl
@[simp] theorem raise_up (c : EventClass) (s : State) : (raise c s).up = s.up := rfl
@[simp] theorem raise_cutMarks (c : EventClass) (s : State) : (raise c s).cutMarks = s.cutMarks := rfl
@[simp] theorem raise_flt (c : EventClass) (s : State) : (raise c s).flt = s.flt := rfl
@[simp] theorem raise_ins (c : EventClass) (s : State) : (raise c s).ins = s.ins := rfl
@[simp] theorem raise_ev (c : EventClass) (s : State) : (raise c s).ev = s.ev.occur c := rfl

/-! ### Giving a write changes the outbox alone -/

@[simp] theorem give_pending (p : Producer) (q : QWrite) (s : State) : (give p q s).pending = s.pending := rfl
@[simp] theorem give_store (p : Producer) (q : QWrite) (s : State) : (give p q s).store = s.store := rfl
@[simp] theorem give_path (p : Producer) (q : QWrite) (s : State) : (give p q s).path = s.path := rfl
@[simp] theorem give_cmd (p : Producer) (q : QWrite) (s : State) : (give p q s).cmd = s.cmd := rfl
@[simp] theorem give_clk (p : Producer) (q : QWrite) (s : State) : (give p q s).clk = s.clk := rfl
@[simp] theorem give_cap (p : Producer) (q : QWrite) (s : State) : (give p q s).cap = s.cap := rfl
@[simp] theorem give_dir (p : Producer) (q : QWrite) (s : State) : (give p q s).dir = s.dir := rfl
@[simp] theorem give_route (p : Producer) (q : QWrite) (s : State) : (give p q s).route = s.route := rfl
@[simp] theorem give_poll (p : Producer) (q : QWrite) (s : State) : (give p q s).poll = s.poll := rfl
@[simp] theorem give_tamper (p : Producer) (q : QWrite) (s : State) : (give p q s).tamper = s.tamper := rfl
@[simp] theorem give_sm (p : Producer) (q : QWrite) (s : State) : (give p q s).sm = s.sm := rfl
@[simp] theorem give_up (p : Producer) (q : QWrite) (s : State) : (give p q s).up = s.up := rfl
@[simp] theorem give_cutMarks (p : Producer) (q : QWrite) (s : State) : (give p q s).cutMarks = s.cutMarks := rfl
@[simp] theorem give_ev (p : Producer) (q : QWrite) (s : State) : (give p q s).ev = s.ev := rfl
@[simp] theorem give_flt (p : Producer) (q : QWrite) (s : State) : (give p q s).flt = s.flt := rfl
@[simp] theorem give_ins_entries (p : Producer) (q : QWrite) (s : State) : (give p q s).ins.entries = s.ins.entries := rfl
@[simp] theorem give_ins_throttle (p : Producer) (q : QWrite) (s : State) : (give p q s).ins.throttle = s.ins.throttle := rfl
@[simp] theorem give_ins_waits (p : Producer) (q : QWrite) (s : State) : (give p q s).ins.waits = s.ins.waits := rfl
@[simp] theorem give_ins_resp0 (p : Producer) (q : QWrite) (s : State) : (give p q s).ins.resp0 = s.ins.resp0 := rfl
@[simp] theorem give_ins_laterLocks (p : Producer) (q : QWrite) (s : State) : (give p q s).ins.laterLocks = s.ins.laterLocks := rfl
@[simp] theorem give_ins_ackFifo (p : Producer) (q : QWrite) (s : State) : (give p q s).ins.ackFifo = s.ins.ackFifo := rfl
@[simp] theorem give_ins_heldBody (p : Producer) (q : QWrite) (s : State) : (give p q s).ins.heldBody = s.ins.heldBody := rfl
@[simp] theorem give_ins_ties (p : Producer) (q : QWrite) (s : State) : (give p q s).ins.ties = s.ins.ties := rfl
@[simp] theorem give_ins_outbox (p : Producer) (q : QWrite) (s : State) :
    (give p q s).ins.outbox = s.ins.outbox ++ [(p, q)] := rfl
@[simp] theorem giveData_eq (p : Producer) (a : Nat) (w : Word) (s : State) :
    giveData p a w s = give p (.word a w false) s := rfl

/-! ### A command's answer changes `cmd` and the outbox alone -/

@[simp] theorem respond_pending (st : Byte) (r : List Word) (s : State) : (respond st r s).pending = s.pending := rfl
@[simp] theorem respond_store (st : Byte) (r : List Word) (s : State) : (respond st r s).store = s.store := rfl
@[simp] theorem respond_path (st : Byte) (r : List Word) (s : State) : (respond st r s).path = s.path := rfl
@[simp] theorem respond_clk (st : Byte) (r : List Word) (s : State) : (respond st r s).clk = s.clk := rfl
@[simp] theorem respond_cap (st : Byte) (r : List Word) (s : State) : (respond st r s).cap = s.cap := rfl
@[simp] theorem respond_dir (st : Byte) (r : List Word) (s : State) : (respond st r s).dir = s.dir := rfl
@[simp] theorem respond_route (st : Byte) (r : List Word) (s : State) : (respond st r s).route = s.route := rfl
@[simp] theorem respond_poll (st : Byte) (r : List Word) (s : State) : (respond st r s).poll = s.poll := rfl
@[simp] theorem respond_tamper (st : Byte) (r : List Word) (s : State) : (respond st r s).tamper = s.tamper := rfl
@[simp] theorem respond_sm (st : Byte) (r : List Word) (s : State) : (respond st r s).sm = s.sm := rfl
@[simp] theorem respond_up (st : Byte) (r : List Word) (s : State) : (respond st r s).up = s.up := rfl
@[simp] theorem respond_cutMarks (st : Byte) (r : List Word) (s : State) : (respond st r s).cutMarks = s.cutMarks := rfl
@[simp] theorem respond_ev (st : Byte) (r : List Word) (s : State) : (respond st r s).ev = s.ev := rfl
@[simp] theorem respond_flt (st : Byte) (r : List Word) (s : State) : (respond st r s).flt = s.flt := rfl
@[simp] theorem respondBehind_pending (p : Producer) (r : Response) (s : State) :
    (respondBehind p r s).pending = s.pending := rfl
@[simp] theorem respondBehind_store (p : Producer) (r : Response) (s : State) :
    (respondBehind p r s).store = s.store := rfl
@[simp] theorem respondBehind_path (p : Producer) (r : Response) (s : State) :
    (respondBehind p r s).path = s.path := rfl
@[simp] theorem respondBehind_clk (p : Producer) (r : Response) (s : State) :
    (respondBehind p r s).clk = s.clk := rfl
@[simp] theorem respondBehind_cap (p : Producer) (r : Response) (s : State) :
    (respondBehind p r s).cap = s.cap := rfl
@[simp] theorem respondBehind_dir (p : Producer) (r : Response) (s : State) :
    (respondBehind p r s).dir = s.dir := rfl
@[simp] theorem respondBehind_route (p : Producer) (r : Response) (s : State) :
    (respondBehind p r s).route = s.route := rfl
@[simp] theorem respondBehind_poll (p : Producer) (r : Response) (s : State) :
    (respondBehind p r s).poll = s.poll := rfl
@[simp] theorem respondBehind_tamper (p : Producer) (r : Response) (s : State) :
    (respondBehind p r s).tamper = s.tamper := rfl
@[simp] theorem respondBehind_sm (p : Producer) (r : Response) (s : State) :
    (respondBehind p r s).sm = s.sm := rfl
@[simp] theorem respondBehind_up (p : Producer) (r : Response) (s : State) :
    (respondBehind p r s).up = s.up := rfl
@[simp] theorem respondBehind_cutMarks (p : Producer) (r : Response) (s : State) :
    (respondBehind p r s).cutMarks = s.cutMarks := rfl
@[simp] theorem respondBehind_ev (p : Producer) (r : Response) (s : State) :
    (respondBehind p r s).ev = s.ev := rfl
@[simp] theorem respondBehind_flt (p : Producer) (r : Response) (s : State) :
    (respondBehind p r s).flt = s.flt := rfl
@[simp] theorem respond_inFlight (st : Byte) (r : List Word) (s : State) :
    (respond st r s).cmd.inFlight = s.cmd.inFlight := rfl

/-! ### A directory entry's change leaves everything but `dir` -/

@[simp] theorem modMeter_pending (i : Nat) (f : Meter → Meter) (s : State) : (modMeter i f s).pending = s.pending := rfl
@[simp] theorem modMeter_store (i : Nat) (f : Meter → Meter) (s : State) : (modMeter i f s).store = s.store := rfl
@[simp] theorem modMeter_path (i : Nat) (f : Meter → Meter) (s : State) : (modMeter i f s).path = s.path := rfl
@[simp] theorem modMeter_cmd (i : Nat) (f : Meter → Meter) (s : State) : (modMeter i f s).cmd = s.cmd := rfl
@[simp] theorem modMeter_clk (i : Nat) (f : Meter → Meter) (s : State) : (modMeter i f s).clk = s.clk := rfl
@[simp] theorem modMeter_cap (i : Nat) (f : Meter → Meter) (s : State) : (modMeter i f s).cap = s.cap := rfl
@[simp] theorem modMeter_route (i : Nat) (f : Meter → Meter) (s : State) : (modMeter i f s).route = s.route := rfl
@[simp] theorem modMeter_poll (i : Nat) (f : Meter → Meter) (s : State) : (modMeter i f s).poll = s.poll := rfl
@[simp] theorem modMeter_tamper (i : Nat) (f : Meter → Meter) (s : State) : (modMeter i f s).tamper = s.tamper := rfl
@[simp] theorem modMeter_sm (i : Nat) (f : Meter → Meter) (s : State) : (modMeter i f s).sm = s.sm := rfl
@[simp] theorem modMeter_up (i : Nat) (f : Meter → Meter) (s : State) : (modMeter i f s).up = s.up := rfl
@[simp] theorem modMeter_cutMarks (i : Nat) (f : Meter → Meter) (s : State) : (modMeter i f s).cutMarks = s.cutMarks := rfl
@[simp] theorem modMeter_ev (i : Nat) (f : Meter → Meter) (s : State) : (modMeter i f s).ev = s.ev := rfl
@[simp] theorem modMeter_flt (i : Nat) (f : Meter → Meter) (s : State) : (modMeter i f s).flt = s.flt := rfl
@[simp] theorem modMeter_ins (i : Nat) (f : Meter → Meter) (s : State) : (modMeter i f s).ins = s.ins := rfl
@[simp] theorem modMeter_dir (i : Nat) (f : Meter → Meter) (s : State) : (modMeter i f s).dir = s.dir.modify i f := rfl

/-! ### A capture slot's change leaves everything but `cap.slots` -/

@[simp] theorem modCap_pending (k : Nat) (f : CapSlot → CapSlot) (s : State) : (modCap k f s).pending = s.pending := rfl
@[simp] theorem modCap_store (k : Nat) (f : CapSlot → CapSlot) (s : State) : (modCap k f s).store = s.store := rfl
@[simp] theorem modCap_path (k : Nat) (f : CapSlot → CapSlot) (s : State) : (modCap k f s).path = s.path := rfl
@[simp] theorem modCap_cmd (k : Nat) (f : CapSlot → CapSlot) (s : State) : (modCap k f s).cmd = s.cmd := rfl
@[simp] theorem modCap_clk (k : Nat) (f : CapSlot → CapSlot) (s : State) : (modCap k f s).clk = s.clk := rfl
@[simp] theorem modCap_dir (k : Nat) (f : CapSlot → CapSlot) (s : State) : (modCap k f s).dir = s.dir := rfl
@[simp] theorem modCap_route (k : Nat) (f : CapSlot → CapSlot) (s : State) : (modCap k f s).route = s.route := rfl
@[simp] theorem modCap_poll (k : Nat) (f : CapSlot → CapSlot) (s : State) : (modCap k f s).poll = s.poll := rfl
@[simp] theorem modCap_tamper (k : Nat) (f : CapSlot → CapSlot) (s : State) : (modCap k f s).tamper = s.tamper := rfl
@[simp] theorem modCap_sm (k : Nat) (f : CapSlot → CapSlot) (s : State) : (modCap k f s).sm = s.sm := rfl
@[simp] theorem modCap_up (k : Nat) (f : CapSlot → CapSlot) (s : State) : (modCap k f s).up = s.up := rfl
@[simp] theorem modCap_cutMarks (k : Nat) (f : CapSlot → CapSlot) (s : State) : (modCap k f s).cutMarks = s.cutMarks := rfl
@[simp] theorem modCap_ev (k : Nat) (f : CapSlot → CapSlot) (s : State) : (modCap k f s).ev = s.ev := rfl
@[simp] theorem modCap_flt (k : Nat) (f : CapSlot → CapSlot) (s : State) : (modCap k f s).flt = s.flt := rfl
@[simp] theorem modCap_ins (k : Nat) (f : CapSlot → CapSlot) (s : State) : (modCap k f s).ins = s.ins := rfl
@[simp] theorem modCap_cap_judgeQ (k : Nat) (f : CapSlot → CapSlot) (s : State) :
    (modCap k f s).cap.judgeQ = s.cap.judgeQ := rfl
@[simp] theorem modCap_cap_deferred (k : Nat) (f : CapSlot → CapSlot) (s : State) :
    (modCap k f s).cap.deferred = s.cap.deferred := rfl
@[simp] theorem modCap_cap_fix (k : Nat) (f : CapSlot → CapSlot) (s : State) :
    (modCap k f s).cap.fix = s.cap.fix := rfl
@[simp] theorem modCap_cap_overruns (k : Nat) (f : CapSlot → CapSlot) (s : State) :
    (modCap k f s).cap.overruns = s.cap.overruns := rfl
@[simp] theorem modCap_cap_unknownMeters (k : Nat) (f : CapSlot → CapSlot) (s : State) :
    (modCap k f s).cap.unknownMeters = s.cap.unknownMeters := rfl
@[simp] theorem modCap_cap_unjudged (k : Nat) (f : CapSlot → CapSlot) (s : State) :
    (modCap k f s).cap.unjudged = s.cap.unjudged := rfl
@[simp] theorem modCap_cap_routeJudged (k : Nat) (f : CapSlot → CapSlot) (s : State) :
    (modCap k f s).cap.routeJudged = s.cap.routeJudged := rfl
@[simp] theorem modCap_cap_routeUnknown (k : Nat) (f : CapSlot → CapSlot) (s : State) :
    (modCap k f s).cap.routeUnknown = s.cap.routeUnknown := rfl
@[simp] theorem modCap_cap_routeOverruns (k : Nat) (f : CapSlot → CapSlot) (s : State) :
    (modCap k f s).cap.routeOverruns = s.cap.routeOverruns := rfl

/-! ### A slot's row changes within `sm.slots` alone -/

@[simp] theorem modRow_pending (k : Nat) (f : RecRow → RecRow) (s : State) : (modRow k f s).pending = s.pending := by
  unfold modRow; split <;> rfl
@[simp] theorem modRow_store (k : Nat) (f : RecRow → RecRow) (s : State) : (modRow k f s).store = s.store := by
  unfold modRow; split <;> rfl
@[simp] theorem modRow_path (k : Nat) (f : RecRow → RecRow) (s : State) : (modRow k f s).path = s.path := by
  unfold modRow; split <;> rfl
@[simp] theorem modRow_cmd (k : Nat) (f : RecRow → RecRow) (s : State) : (modRow k f s).cmd = s.cmd := by
  unfold modRow; split <;> rfl
@[simp] theorem modRow_clk (k : Nat) (f : RecRow → RecRow) (s : State) : (modRow k f s).clk = s.clk := by
  unfold modRow; split <;> rfl
@[simp] theorem modRow_cap (k : Nat) (f : RecRow → RecRow) (s : State) : (modRow k f s).cap = s.cap := by
  unfold modRow; split <;> rfl
@[simp] theorem modRow_dir (k : Nat) (f : RecRow → RecRow) (s : State) : (modRow k f s).dir = s.dir := by
  unfold modRow; split <;> rfl
@[simp] theorem modRow_route (k : Nat) (f : RecRow → RecRow) (s : State) : (modRow k f s).route = s.route := by
  unfold modRow; split <;> rfl
@[simp] theorem modRow_poll (k : Nat) (f : RecRow → RecRow) (s : State) : (modRow k f s).poll = s.poll := by
  unfold modRow; split <;> rfl
@[simp] theorem modRow_tamper (k : Nat) (f : RecRow → RecRow) (s : State) : (modRow k f s).tamper = s.tamper := by
  unfold modRow; split <;> rfl
@[simp] theorem modRow_up (k : Nat) (f : RecRow → RecRow) (s : State) : (modRow k f s).up = s.up := by
  unfold modRow; split <;> rfl
@[simp] theorem modRow_cutMarks (k : Nat) (f : RecRow → RecRow) (s : State) : (modRow k f s).cutMarks = s.cutMarks := by
  unfold modRow; split <;> rfl
@[simp] theorem modRow_ev (k : Nat) (f : RecRow → RecRow) (s : State) : (modRow k f s).ev = s.ev := by
  unfold modRow; split <;> rfl
@[simp] theorem modRow_flt (k : Nat) (f : RecRow → RecRow) (s : State) : (modRow k f s).flt = s.flt := by
  unfold modRow; split <;> rfl
@[simp] theorem modRow_ins (k : Nat) (f : RecRow → RecRow) (s : State) : (modRow k f s).ins = s.ins := by
  unfold modRow; split <;> rfl
@[simp] theorem modRow_sm_backlog (k : Nat) (f : RecRow → RecRow) (s : State) : (modRow k f s).sm.backlog = s.sm.backlog := by
  unfold modRow; split <;> rfl
@[simp] theorem modRow_sm_roster (k : Nat) (f : RecRow → RecRow) (s : State) : (modRow k f s).sm.roster = s.sm.roster := by
  unfold modRow; split <;> rfl
@[simp] theorem modRow_sm_nextSeq (k : Nat) (f : RecRow → RecRow) (s : State) : (modRow k f s).sm.nextSeq = s.sm.nextSeq := by
  unfold modRow; split <;> rfl
@[simp] theorem modRow_sm_scan (k : Nat) (f : RecRow → RecRow) (s : State) : (modRow k f s).sm.scan = s.sm.scan := by
  unfold modRow; split <;> rfl
@[simp] theorem modRow_sm_findings (k : Nat) (f : RecRow → RecRow) (s : State) : (modRow k f s).sm.findings = s.sm.findings := by
  unfold modRow; split <;> rfl
@[simp] theorem modRow_sm_workRoster (k : Nat) (f : RecRow → RecRow) (s : State) : (modRow k f s).sm.workRoster = s.sm.workRoster := by
  unfold modRow; split <;> rfl
@[simp] theorem modRow_sm_highest (k : Nat) (f : RecRow → RecRow) (s : State) : (modRow k f s).sm.highest = s.sm.highest := by
  unfold modRow; split <;> rfl

/-! ### A meter's move changes its entry, its segment's count and possibly SEGMENT_DONE -/

@[simp] theorem moveSegment_pending (g : Nat) (a b : MeterState) (s : State) : (moveSegment g a b s).pending = s.pending := by
  unfold moveSegment; split
  · split
    · split <;> rfl
    · rfl
  · split <;> rfl
@[simp] theorem moveSegment_store (g : Nat) (a b : MeterState) (s : State) : (moveSegment g a b s).store = s.store := by
  unfold moveSegment; split
  · split
    · split <;> rfl
    · rfl
  · split <;> rfl
@[simp] theorem moveSegment_path (g : Nat) (a b : MeterState) (s : State) : (moveSegment g a b s).path = s.path := by
  unfold moveSegment; split
  · split
    · split <;> rfl
    · rfl
  · split <;> rfl
@[simp] theorem moveSegment_ins (g : Nat) (a b : MeterState) (s : State) : (moveSegment g a b s).ins = s.ins := by
  unfold moveSegment; split
  · split
    · split <;> rfl
    · rfl
  · split <;> rfl
@[simp] theorem moveSegment_cmd (g : Nat) (a b : MeterState) (s : State) : (moveSegment g a b s).cmd = s.cmd := by
  unfold moveSegment; split
  · split
    · split <;> rfl
    · rfl
  · split <;> rfl
@[simp] theorem moveSegment_clk (g : Nat) (a b : MeterState) (s : State) : (moveSegment g a b s).clk = s.clk := by
  unfold moveSegment; split
  · split
    · split <;> rfl
    · rfl
  · split <;> rfl
@[simp] theorem moveSegment_cap (g : Nat) (a b : MeterState) (s : State) : (moveSegment g a b s).cap = s.cap := by
  unfold moveSegment; split
  · split
    · split <;> rfl
    · rfl
  · split <;> rfl
@[simp] theorem moveSegment_dir (g : Nat) (a b : MeterState) (s : State) : (moveSegment g a b s).dir = s.dir := by
  unfold moveSegment; split
  · split
    · split <;> rfl
    · rfl
  · split <;> rfl
@[simp] theorem moveSegment_poll (g : Nat) (a b : MeterState) (s : State) : (moveSegment g a b s).poll = s.poll := by
  unfold moveSegment; split
  · split
    · split <;> rfl
    · rfl
  · split <;> rfl
@[simp] theorem moveSegment_tamper (g : Nat) (a b : MeterState) (s : State) : (moveSegment g a b s).tamper = s.tamper := by
  unfold moveSegment; split
  · split
    · split <;> rfl
    · rfl
  · split <;> rfl
@[simp] theorem moveSegment_sm (g : Nat) (a b : MeterState) (s : State) : (moveSegment g a b s).sm = s.sm := by
  unfold moveSegment; split
  · split
    · split <;> rfl
    · rfl
  · split <;> rfl
@[simp] theorem moveSegment_up (g : Nat) (a b : MeterState) (s : State) : (moveSegment g a b s).up = s.up := by
  unfold moveSegment; split
  · split
    · split <;> rfl
    · rfl
  · split <;> rfl
@[simp] theorem moveSegment_cutMarks (g : Nat) (a b : MeterState) (s : State) : (moveSegment g a b s).cutMarks = s.cutMarks := by
  unfold moveSegment; split
  · split
    · split <;> rfl
    · rfl
  · split <;> rfl
@[simp] theorem moveSegment_flt (g : Nat) (a b : MeterState) (s : State) : (moveSegment g a b s).flt = s.flt := by
  unfold moveSegment; split
  · split
    · split <;> rfl
    · rfl
  · split <;> rfl
@[simp] theorem setMeterState_pending (i : Nat) (x : MeterState) (s : State) : (setMeterState i x s).pending = s.pending := by
  unfold setMeterState; split <;> simp
@[simp] theorem setMeterState_store (i : Nat) (x : MeterState) (s : State) : (setMeterState i x s).store = s.store := by
  unfold setMeterState; split <;> simp
@[simp] theorem setMeterState_path (i : Nat) (x : MeterState) (s : State) : (setMeterState i x s).path = s.path := by
  unfold setMeterState; split <;> simp
@[simp] theorem setMeterState_ins (i : Nat) (x : MeterState) (s : State) : (setMeterState i x s).ins = s.ins := by
  unfold setMeterState; split <;> simp
@[simp] theorem setMeterState_cmd (i : Nat) (x : MeterState) (s : State) : (setMeterState i x s).cmd = s.cmd := by
  unfold setMeterState; split <;> simp
@[simp] theorem setMeterState_clk (i : Nat) (x : MeterState) (s : State) : (setMeterState i x s).clk = s.clk := by
  unfold setMeterState; split <;> simp
@[simp] theorem setMeterState_cap (i : Nat) (x : MeterState) (s : State) : (setMeterState i x s).cap = s.cap := by
  unfold setMeterState; split <;> simp
@[simp] theorem setMeterState_poll (i : Nat) (x : MeterState) (s : State) : (setMeterState i x s).poll = s.poll := by
  unfold setMeterState; split <;> simp
@[simp] theorem setMeterState_tamper (i : Nat) (x : MeterState) (s : State) : (setMeterState i x s).tamper = s.tamper := by
  unfold setMeterState; split <;> simp
@[simp] theorem setMeterState_sm (i : Nat) (x : MeterState) (s : State) : (setMeterState i x s).sm = s.sm := by
  unfold setMeterState; split <;> simp
@[simp] theorem setMeterState_up (i : Nat) (x : MeterState) (s : State) : (setMeterState i x s).up = s.up := by
  unfold setMeterState; split <;> simp
@[simp] theorem setMeterState_cutMarks (i : Nat) (x : MeterState) (s : State) : (setMeterState i x s).cutMarks = s.cutMarks := by
  unfold setMeterState; split <;> simp
@[simp] theorem setMeterState_flt (i : Nat) (x : MeterState) (s : State) : (setMeterState i x s).flt = s.flt := by
  unfold setMeterState; split <;> simp

end Sys2Proof.Machine
end

