-- ==== Sys2Proof/Laws/Store.lean ====
section
/-! SUPPORT. The route store: what a byte reads after a write, and that every store operation keeps Memory.wf. -/
namespace Sys2Proof.Machine

theorem Memory.wf_iff (st : Store) :
    Memory.wf st = true ↔ canonical (0 : Byte) st.bytes = true ∧ canonical false st.odd = true := by
  simp [Memory.wf]

theorem Memory.wf_writeByte (st : Store) (a : Nat) (b : Byte) (p : Bool) (h : Memory.wf st = true) :
    Memory.wf (st.writeByte a b p) = true := by
  rw [Memory.wf_iff] at h ⊢
  exact ⟨canonical_setD _ _ _ _ h.1, canonical_setD _ _ _ _ h.2⟩

theorem Memory.wf_writeLane (st : Store) (a : Nat) (w : BusWord) (be : BitVec 4) (i : Nat) (h : Memory.wf st = true) :
    Memory.wf (st.writeLane a w be i) = true := by
  unfold Store.writeLane
  split
  · exact Memory.wf_writeByte _ _ _ _ h
  · exact h

/-- A bus write keeps the store's form. -/
theorem Memory.wf_write (st : Store) (a : Nat) (w : BusWord) (be : BitVec 4) (h : Memory.wf st = true) :
    Memory.wf (st.write a w be) = true :=
  Memory.wf_writeLane _ _ _ _ _ (Memory.wf_writeLane _ _ _ _ _ (Memory.wf_writeLane _ _ _ _ _ (Memory.wf_writeLane _ _ _ _ _ h)))

/-- A write of the part's own keeps the store's form. -/
theorem Memory.wf_writeOwn (st : Store) (a : Nat) (d : Word) (h : Memory.wf st = true) :
    Memory.wf (st.writeOwn a d) = true := Memory.wf_write _ _ _ _ h

/-- The store that lists nothing has the form. -/
theorem Memory.wf_empty : Memory.wf ⟨[], []⟩ = true := rfl

theorem Store.byte_writeByte_other (st : Store) {a x : Nat} (b : Byte) (p : Bool) (h : x ≠ a) :
    (st.writeByte a b p).byte x = st.byte x := getD_setD_other _ _ _ h

theorem Store.parityBit_writeByte_other (st : Store) {a x : Nat} (b : Byte) (p : Bool) (h : x ≠ a) :
    (st.writeByte a b p).parityBit x = st.parityBit x := by
  unfold Store.parityBit
  rw [Store.byte_writeByte_other st b p h]
  show (_ ^^ getD false (setD false st.odd a _) x) = _
  rw [getD_setD_other _ _ _ h]

theorem Store.byte_writeByte_same (st : Store) (a : Nat) (b : Byte) (p : Bool) (h : Memory.wf st = true) :
    (st.writeByte a b p).byte a = b := getD_setD_same _ _ _ _ ((Memory.wf_iff st).mp h).1

theorem Store.parityBit_writeByte_same (st : Store) (a : Nat) (b : Byte) (p : Bool) (h : Memory.wf st = true) :
    (st.writeByte a b p).parityBit a = p := by
  unfold Store.parityBit
  rw [Store.byte_writeByte_same st a b p h]
  show (_ ^^ getD false (setD false st.odd a _) a) = _
  rw [getD_setD_same _ _ _ _ ((Memory.wf_iff st).mp h).2]
  cases p <;> cases oddOnes b <;> rfl

theorem Store.writeLane_other (st : Store) {a x : Nat} (w : BusWord) (be : BitVec 4) (i : Nat) (h : x ≠ a + i) :
    (st.writeLane a w be i).byte x = st.byte x ∧ (st.writeLane a w be i).parityBit x = st.parityBit x := by
  unfold Store.writeLane
  split
  · exact ⟨Store.byte_writeByte_other st _ _ h, Store.parityBit_writeByte_other st _ _ h⟩
  · exact ⟨rfl, rfl⟩

/-- What one lane of a bus write leaves at its own byte. -/
theorem Store.writeLane_same (st : Store) (a : Nat) (w : BusWord) (be : BitVec 4) (i : Nat) (h : Memory.wf st = true) :
    (st.writeLane a w be i).byte (a + i) = (if be.getLsbD i then byteOf w.data i else st.byte (a + i)) ∧
      (st.writeLane a w be i).parityBit (a + i) =
        (if be.getLsbD i then w.parity.getLsbD i else st.parityBit (a + i)) := by
  unfold Store.writeLane
  split
  · exact ⟨Store.byte_writeByte_same _ _ _ _ h, Store.parityBit_writeByte_same _ _ _ _ h⟩
  · exact ⟨rfl, rfl⟩

/-- A bus write changes no byte outside its word. -/
theorem Store.write_other (st : Store) {a x : Nat} (w : BusWord) (be : BitVec 4) (h : x < a ∨ a + 4 ≤ x) :
    (st.write a w be).byte x = st.byte x ∧ (st.write a w be).parityBit x = st.parityBit x := by
  unfold Store.write
  have h0 := Store.writeLane_other st w be 0 (x := x) (a := a) (by omega)
  have h1 := Store.writeLane_other (st.writeLane a w be 0) w be 1 (x := x) (a := a) (by omega)
  have h2 := Store.writeLane_other ((st.writeLane a w be 0).writeLane a w be 1) w be 2 (x := x) (a := a) (by omega)
  have h3 := Store.writeLane_other (((st.writeLane a w be 0).writeLane a w be 1).writeLane a w be 2) w be 3 (x := x)
    (a := a) (by omega)
  exact ⟨h3.1.trans (h2.1.trans (h1.1.trans h0.1)), h3.2.trans (h2.2.trans (h1.2.trans h0.2))⟩

end Sys2Proof.Machine
end

