-- ==== Sys2Proof/Laws/Taken.lean ====
section
/-! SUPPORT. When an event, an upstream access and a host command are taken, and the state they then lead to: what later
proofs cite in place of unfolding the Path Unit. -/
namespace Sys2Proof.Machine

theorem event_taken {can : Bool} {f : State → State} {s : State} (hr : Awake s) (hc : can = true) :
    event can f s = .next (finish s (f s)) := by
  have h : s.path.resetAsserted = false := hr
  unfold event
  rw [h, hc]
  rfl

theorem event_in_reset {can : Bool} {f : State → State} {s : State} (hr : s.path.resetAsserted = true) :
    event can f s = .next s := by
  unfold event
  rw [hr]
  rfl

theorem event_next (can : Bool) (f : State → State) (s : State) : ∃ t, event can f s = .next t := ⟨_, rfl⟩

/-- An access that finds the bus free is taken at once. -/
theorem upstream_taken {a : Access} {s : State} (h : BusFree s) : upstream a s = .next (finish s (takeAccess a s)) := by
  obtain ⟨hr, hh, ht⟩ := h
  unfold upstream
  rw [event_taken hr (by rw [hh]; rfl)]
  unfold arrive
  rw [ht]
  rfl

theorem cancelQueued_none {win : Window} {a : Nat} {s : State} (h : NotQueued s a) : cancelQueued win a s = s := by
  unfold cancelQueued
  have hf : (s.ins.entries.filter fun e => decide (e.addr = a)) = [] := by
    rw [List.filter_eq_nil_iff]
    intro e he
    simpa using h e he
  rw [hf]
  rfl

/-- A read is served with what Answers says (R3, R13). -/
theorem serve_of_answers {s : State} {a : Nat} {d : Disturb} {w : BusWord} (h : Answers s a d w) : serve s a d = w := by
  rcases h with ⟨e, he, rfl⟩ | ⟨hn, rfl⟩
  · simp only [serve, he]
  · simp only [serve, hn, Store.answer]

/-- Without a held access nothing is due (R15). -/
theorem heldDue_none {s : State} (h : s.path.held = none) : heldDue s = false := by simp only [heldDue, h]

/-- While a held access is due no queued write is issued (R15). -/
theorem issueReady_of_due {s : State} (h : heldDue s = true) : issueReady s = false := by simp [issueReady, h]

theorem issueReady_of_joinDue {s : State} (h : joinDue s = true) : issueReady s = false := by simp [issueReady, h]

theorem joinDue_eq_true_iff {s : State} : joinDue s = true ↔ s.ins.entries.length < 64 ∧ s.ins.waits ≠ [] := by
  unfold joinDue
  rw [Bool.and_eq_true, decide_eq_true_iff]
  simp [Config.queuePlaces]

/-- A command that cannot be taken changes nothing (log entry 1). -/
theorem event_not_taken {can : Bool} {f : State → State} {s : State} (hc : can = false) : event can f s = .next s := by
  simp [event, hc]

/-! ### Windows -/

theorem windowOf_at (sel : BitVec 3) (off : Nat) (h : off < 0x200000) : windowOf sel (partBase sel + off) = windowAt off := by
  unfold windowOf
  rw [if_pos ⟨by omega, by show _ < _ + 0x200000; omega⟩]
  congr 1
  omega

theorem windowOf_command (sel : BitVec 3) {w : Nat} (h : w < 16) : windowOf sel (commandAddr sel w) = .command w := by
  unfold commandAddr
  rw [windowOf_at sel _ (by omega)]
  unfold windowAt
  rw [if_pos (by omega)]
  congr 1
  omega

theorem windowOf_response (sel : BitVec 3) {w : Nat} (h : w < 8) : windowOf sel (responseAddr sel w) = .response w := by
  unfold responseAddr
  rw [Nat.add_assoc, windowOf_at sel _ (by omega)]
  unfold windowAt
  rw [if_neg (by omega), if_pos (by omega)]
  congr 1
  omega

theorem windowOf_position (sel : BitVec 3) {w : Nat} (h : w < 4) : windowOf sel (positionAddr sel w) = .position w := by
  unfold positionAddr
  rw [Nat.add_assoc, windowOf_at sel _ (by omega)]
  unfold windowAt
  rw [if_neg (by omega), if_neg (by omega), if_pos (by omega)]
  congr 1
  omega

theorem windowOf_status (sel : BitVec 3) {w : Nat} (h : w < 32) : windowOf sel (statusAddr sel w) = .status w := by
  unfold statusAddr
  rw [Nat.add_assoc, windowOf_at sel _ (by omega)]
  unfold windowAt
  iterate 4 rw [if_neg (by omega)]
  rw [if_pos (by omega)]
  congr 1
  omega

theorem windowOf_tx (sel : BitVec 3) {k w : Nat} (hk : k < 32) (hw : w < 8) : windowOf sel (txAddr sel k w) = .tx k w := by
  unfold txAddr
  rw [Nat.add_assoc, Nat.add_assoc, windowOf_at sel _ (by omega)]
  unfold windowAt
  iterate 6 rw [if_neg (by omega)]
  rw [if_pos (by omega)]
  congr 1 <;> omega

theorem windowOf_manifest (sel : BitVec 3) {w : Nat} (h : w < 1028) : windowOf sel (manifestAddr sel w) = .manifest w := by
  unfold manifestAddr
  rw [Nat.add_assoc, windowOf_at sel _ (by omega)]
  unfold windowAt
  iterate 8 rw [if_neg (by omega)]
  rw [if_pos (by omega)]
  congr 1
  omega

theorem windowOf_capture (sel : BitVec 3) {k w : Nat} (hk : k < 256) (hw : w < 16) :
    windowOf sel (captureAddr sel k w) = .capture k w := by
  unfold captureAddr
  rw [Nat.add_assoc, Nat.add_assoc, windowOf_at sel _ (by omega)]
  unfold windowAt
  iterate 10 rw [if_neg (by omega)]
  rw [if_pos (by omega)]
  congr 1 <;> omega

theorem windowOf_image (sel : BitVec 3) {w : Nat} (h : w < 32784) : windowOf sel (imageAddr sel w) = .image w := by
  unfold imageAddr
  rw [Nat.add_assoc, windowOf_at sel _ (by omega)]
  unfold windowAt
  iterate 12 rw [if_neg (by omega)]
  rw [if_pos (by omega)]
  congr 1
  omega

theorem windowOf_record (sel : BitVec 3) {k w : Nat} (hk : k < 8192) (hw : w < 16) :
    windowOf sel (recordAddr sel k w) = .record k w := by
  unfold recordAddr
  rw [Nat.add_assoc, Nat.add_assoc, windowOf_at sel _ (by omega)]
  unfold windowAt
  iterate 14 rw [if_neg (by omega)]
  rw [if_pos (by omega)]
  congr 1 <;> omega

/-! ### Words and lanes -/

theorem mergeBytes_all (old new : Word) : mergeBytes old new allLanes = new := by
  show wordOf (byteOf new 0) (byteOf new 1) (byteOf new 2) (byteOf new 3) = new
  unfold wordOf byteOf bits
  ext i hi
  simp only [BitVec.getElem_append, BitVec.getElem_extractLsb']
  split
  · simp [BitVec.getLsbD_eq_getElem hi]
  · split
    · rw [← BitVec.getLsbD_eq_getElem]; congr 1; omega
    · split
      · rw [← BitVec.getLsbD_eq_getElem]; congr 1; omega
      · rw [← BitVec.getLsbD_eq_getElem]; congr 1; omega

/-- A write that is not blocked, of no queued word, passes. -/
theorem takeWriteIn_passes {addr : Nat} {w : BusWord} {be : BitVec 4} {s : State} {win : Window}
    (hb : blockReason s win = none) (hq : NotQueued s addr)
    (hc : (isCaptureCommit s win be && judgeFull s) = false) :
    takeWriteIn win addr w be s = passWrite win addr w be (passSnapshot win s) := by
  have hs : NotQueued (passSnapshot win s) addr := hq
  unfold takeWriteIn
  simp only [hb, hc, cancelQueued_none hs]
  simp

theorem takeWrite_in {addr : Nat} {w : BusWord} {be : BitVec 4} {s : State} {win : Window}
    (hw : windowOf s.path.areaSel addr = win) : takeWrite addr w be s = takeWriteIn win addr w be s :=
  congrArg (fun x => takeWriteIn x addr w be s) hw

theorem takeRead_in {addr : Nat} {d : Disturb} {s : State} {win : Window}
    (hw : windowOf s.path.areaSel addr = win) : takeRead addr d s = takeReadIn win addr d s :=
  congrArg (fun x => takeReadIn x addr d s) hw

theorem takeWrite_passes {addr : Nat} {w : BusWord} {be : BitVec 4} {s : State} {win : Window}
    (hw : windowOf s.path.areaSel addr = win) (hb : blockReason s win = none) (hq : NotQueued s addr)
    (hc : (isCaptureCommit s win be && judgeFull s) = false) :
    takeWrite addr w be s = passWrite win addr w be (passSnapshot win s) :=
  (takeWrite_in hw).trans (takeWriteIn_passes hb hq hc)

/-! ### Commits on the Command Slot -/

theorem bits_commandWord (c : HostCommand) (h : CmdHeader) :
    bits (commandWord c h) 0 8 = h.length ∧ bits (commandWord c h) 8 8 = codeOf c ∧
      bits (commandWord c h) 16 8 = h.tag ∧ bits (commandWord c h) 24 8 = h.check := by
  unfold commandWord bits place
  refine ⟨?_, ?_, ?_, ?_⟩ <;> ext i hi <;> interval_cases i <;>
    simp [BitVec.getLsbD_or, BitVec.getLsbD_shiftLeft, BitVec.getLsbD_setWidth,
      BitVec.getLsbD_of_ge, ← BitVec.getLsbD_eq_getElem]

theorem commandWord_ne_zero (c : HostCommand) (h : CmdHeader) : commandWord c h ≠ 0 := by
  intro hz
  have hb := (bits_commandWord c h).2.1
  rw [hz] at hb
  cases c <;> simp [codeOf, bits] at hb

/-- The code check finds the command of a code (R27). -/
theorem commandOf_codeOf (c : HostCommand) : commandOf (codeOf c) = some c := by cases c <;> rfl

theorem shadowKey_command (sel : BitVec 3) (w : Nat) : shadowKey sel (commandAddr sel w) = w := by
  unfold shadowKey commandAddr
  omega

theorem paramCopy_after (c : HostCommand) (h : CmdHeader) (s t : State)
    (ht : t.path.shadow = setD 0 s.path.shadow 0 (commandWord c h)) : paramCopy t = commitParams c h s := by
  have h0 : t.shadowWord 0 = commandWord c h := by
    unfold State.shadowWord
    rw [ht]
    exact getD_setD_same_of_ne _ _ _ (commandWord_ne_zero c h)
  have hn : ∀ n, t.shadowWord (n + 1) = getD 0 s.path.shadow (n + 1) := by
    intro n
    unfold State.shadowWord
    rw [ht]
    exact getD_setD_other _ _ _ (by omega)
  unfold paramCopy commitParams
  simp [List.range_succ_eq_map]
  exact ⟨h0, hn 0, hn 1, hn 2, hn 3, hn 4, hn 5, hn 6, hn 7, hn 8, hn 9, hn 10, hn 11, hn 12, hn 13, hn 14⟩

/-- A commit that begins a command has done `begun` before its checks (R25). -/
theorem commitOf_begins (c : HostCommand) (h : CmdHeader) (s : State) (hb : Begins s) :
    commitOf c h s = .next (finish s (checkAndRun (commitParams c h s) (begun c h s))) := by
  obtain ⟨hf, hq, hi⟩ := hb
  unfold commitOf
  rw [upstream_taken hf]
  show Host.Outcome.next (finish s (takeWrite _ _ _ s)) = _
  rw [takeWrite_passes (windowOf_command _ (by omega)) rfl hq rfl]
  congr 2
  have hsh : (passShadowed (commandAddr s.path.areaSel 0) ⟨commandWord c h, h.parity⟩ allLanes
      (passSnapshot (.command 0) s)).path.shadow = setD 0 s.path.shadow 0 (commandWord c h) := by
    unfold passShadowed takeShadow storeWrite passSnapshot
    simp only [mergeBytes_all, shadowKey_command]
  show commitCommand (passShadowed (commandAddr s.path.areaSel 0) ⟨commandWord c h, h.parity⟩ allLanes
      (passSnapshot (.command 0) s)) = _
  unfold commitCommand
  rw [if_neg (by show ¬ (s.cmd.inFlight = true); rw [hi]; decide)]
  have hp := paramCopy_after c h s _ hsh
  have hbits := bits_commandWord c h
  have hbg : beginFlight (passShadowed (commandAddr s.path.areaSel 0) ⟨commandWord c h, h.parity⟩ allLanes
      (passSnapshot (.command 0) s)) = begun c h s := by
    unfold beginFlight
    rw [hp]
    unfold begun
    unfold passShadowed takeShadow storeWrite passSnapshot
    simp only [mergeBytes_all, shadowKey_command]
    have hw0 : param (commitParams c h s) 0 = commandWord c h := rfl
    rw [hw0, hbits.2.1, hbits.2.2.1]
    rfl
  rw [hbg]
  rfl

/-- The checks of R26 and R27 on the parameter copy of a commit of `c`. -/
theorem checkRecord_commit (c : HostCommand) (h : CmdHeader) (s : State) :
    checkRecord (commitParams c h s) =
      if checkByte (commitParams c h s) ≠ h.check then .inr stBadCrc
      else if h.length.toNat = paramWords c then .inl c else .inr stBadLength := by
  have hbits := bits_commandWord c h
  have hw0 : param (commitParams c h s) 0 = commandWord c h := rfl
  unfold checkRecord
  simp only [hw0, hbits.1, hbits.2.1, hbits.2.2.2, commandOf_codeOf]

/-- A commit of an accepted command runs it on its parameter copy. -/
theorem commitOf_accepted (c : HostCommand) (h : CmdHeader) (s : State) (ha : Accepted c h s) :
    commitOf c h s = .next (finish s (runCommand c (commitParams c h s) (begun c h s))) := by
  obtain ⟨hb, hs, hl, hc⟩ := ha
  rw [commitOf_begins c h s hb]
  unfold checkAndRun
  rw [checkRecord_commit, if_neg (by rw [hc]; simp), if_pos hl]
  show Host.Outcome.next (finish s (if s.scanDone = true then _ else _)) = _
  rw [if_pos hs]

/-- Parameter word `n + 1` of the copy is the shadow's (R25). -/
theorem param_commit (c : HostCommand) (h : CmdHeader) (s : State) {n : Nat} (hn : n < 15) :
    param (commitParams c h s) (n + 1) = hostParam s (n + 1) := by
  unfold param commitParams hostParam
  simp [List.getD, hn]

/-- A host command's row commits that command. -/
theorem exec_hostInstr (c : HostCommand) (h : CmdHeader) (s : State) : exec (hostInstr c h) s = commitOf c h s := by
  cases c <;> rfl

end Sys2Proof.Machine
end

