-- ==== Sys2Proof/WellFormed.lean ====
section
/-! DEFINITION. Which commands are well formed: the operands that can occur on the pins or name something that exists. -/
namespace Sys2Proof

/-- Chapter 1, opening: the address of an access is the byte address of its word; its two lowest bits are 0. -/
def aligned (addr : Word) : Bool := bits addr 0 2 == 0

/-- The checks on a command's operands.  Every slot and word number is bounded by its type. -/
def Instr.wellFormed : Instr → Bool
  | .upstreamWrite addr _ _ => aligned addr
  | .blockedWrite addr _ _ => aligned addr
  | .upstreamRead addr _ _ => aligned addr
  | .statusWordRead word _ _ => word != 0
  | .listenExpiry meter => decide (meter < 4096)
  | .holdoffRelease meter => decide (meter < 4096)
  | .powerOn _ => true
  | .resetNAsserted => true
  | .resetNReleased _ => true
  | .throttleHoldEnd => true
  | .statusSnapshotRead _ => true
  | .commitCollision _ => true
  | .routeOpen _ => true
  | .routeClose _ => true
  | .segmentEnter _ => true
  | .segmentLeave _ => true
  | .thresholdStage _ => true
  | .thresholdNudge _ => true
  | .pollNow _ => true
  | .meterQuery _ => true
  | .tamperAck _ => true
  | .uploadBegin _ => true
  | .uploadAck _ => true
  | .uploadAbandon _ => true
  | .eventEnable _ => true
  | .eventClear _ => true
  | .faultClear _ => true
  | .commandFlightEnd => true
  | .positionCommit _ => true
  | .captureArm _ _ _ => true
  | .captureCommit _ _ => true
  | .heldCaptureCommitTaken => true
  | .captureVerdictRead _ _ _ => true
  | .judgeBurst => true
  | .deferredJudge => true
  | .routeNumberRead _ => true
  | .headerRead _ => true
  | .entryRead _ => true
  | .scanRead _ => true
  | .scanRebuildRead _ => true
  | .buildRead _ => true
  | .insertQueueJoin => true
  | .insertIssue => true
  | .composition => true
  | .frameBegin => true
  | .txReport _ _ => true
  | .readingStoreRead _ _ _ _ => true
  | .routeClockAdvance => true
  | .clockLost => true
  | .sleepStateChange levels => !levels.isEmpty
  | .wakePulseEnd => true
  | .refclkRisingEdge => true

end Sys2Proof
end

