-- ==== Sys2Proof/Tests/Slice0.lean ====
section
/-! SUPPORT. Tests: ill-formed commands, check codes, worked values of the spec, and for every obligation with hypotheses a
state and operands that meet them, clause by clause. -/
namespace Sys2Proof.Tests

open Sys2Proof Sys2Proof.Machine

set_option Elab.async false

/-! ### Ill-formed commands are refused by the check -/

theorem test_illformed_write : Instr.wellFormed (.upstreamWrite 0x1002#32 ⟨0, 0⟩ 0xF#4) = false := by decide
theorem test_illformed_blocked_write : Instr.wellFormed (.blockedWrite 0x41#32 ⟨0, 0⟩ 0xF#4) = false := by decide
theorem test_illformed_read : Instr.wellFormed (.upstreamRead 0x1003#32 0xF#4 ⟨0, 0⟩) = false := by decide
theorem test_illformed_status_word : Instr.wellFormed (.statusWordRead 0 0xF#4 ⟨0, 0⟩) = false := by decide
theorem test_illformed_expiry : Instr.wellFormed (.listenExpiry 4096) = false := by decide
theorem test_illformed_release : Instr.wellFormed (.holdoffRelease 4096) = false := by decide
theorem test_illformed_sleep : Instr.wellFormed (.sleepStateChange []) = false := by decide
theorem test_wellformed_boundaries :
    Instr.wellFormed (.upstreamWrite 0xFFFFFFFC#32 ⟨0, 0⟩ 0#4) = true ∧
      Instr.wellFormed (.statusWordRead 31 0xF#4 ⟨0, 0⟩) = true ∧ Instr.wellFormed (.listenExpiry 4095) = true ∧
      Instr.wellFormed (.holdoffRelease 0) = true := by decide

/-! ### Check codes and parity -/

/-- The ASCII digits 1 to 9, the usual check input of a CRC. -/
def digits : List Byte := [0x31, 0x32, 0x33, 0x34, 0x35, 0x36, 0x37, 0x38, 0x39]

theorem test_crc16_of_digits : crc16 digits = 0x29B1#16 := by decide +kernel
theorem test_crc8_without_final_xor : crc8 digits = 0x20#8 := by decide +kernel
theorem test_crc32_of_four_zero_words : crc32 [0, 0, 0, 0, 0, 0, 0, 0] = 0x8A9136AA#32 := by decide +kernel
theorem test_even_parity : evenParity 0x01030700#32 = 0b1010#4 := by decide +kernel

/-! ### Worked values -/

/-- R91's table. -/
theorem test_nudge_table :
    (nudged ⟨0xFF92#16, 0, 0, 0⟩ 0 (-8)).1.floor.toInt = -118 ∧ (nudged ⟨0xFF78#16, 0, 0, 0⟩ 0 (-8)).1.floor.toInt = -140 ∧
      (nudged ⟨0xFF74#16, 0, 0, 0⟩ 0 130).1.floor.toInt = -20 ∧ (nudged ⟨0xFF74#16, 0, 0, 0⟩ 0 130).2.2 = true := by
  decide +kernel

/-- R109's table of forward distances. -/
theorem test_counter_table :
    (burstCauses ⟨1, 3, 0, false, true, none, ⟨0, 0⟩, 0x1200#16, 0⟩ 3 0 0x1234#16 = 0) ∧
      (burstCauses ⟨1, 3, 0, false, true, none, ⟨0, 0⟩, 0x1200#16, 0⟩ 3 0 0x1200#16 = cCounter) ∧
      (burstCauses ⟨1, 3, 0, false, true, none, ⟨0, 0⟩, 0x1200#16, 0⟩ 3 0 0x11FF#16 = cCounter) ∧
      (burstCauses ⟨1, 3, 0, false, true, none, ⟨0, 0⟩, 0xFFF0#16, 0⟩ 3 0 0x0005#16 = 0) := by decide +kernel

/-- R110's table, four of its rows. -/
theorem test_confirm_table :
    (confirmCauses ⟨1, 3, 0, true, false, none, ⟨10000, 0⟩, 0, 0⟩ ⟨9990, 0⟩ ⟨0, 500, 20, 0⟩ = cRollback) ∧
      (confirmCauses ⟨1, 3, 0, true, false, none, ⟨10000, 0⟩, 0, 0⟩ ⟨10000, 0⟩ ⟨0, 500, 20, 0⟩ = cIdle) ∧
      (confirmCauses ⟨1, 3, 0, true, false, none, ⟨10000, 0⟩, 0, 0⟩ ⟨10600, 0⟩ ⟨0, 500, 20, 0⟩ = cExcess) ∧
      (confirmCauses ⟨1, 3, 0, false, false, none, ⟨10000, 0⟩, 0, 800⟩ ⟨10600, 0⟩ ⟨0, 500, 20, 0⟩ = 0) := by
  decide +kernel

/-- R77's table: readings 812, 815, 812, 815 confirm 815. -/
theorem test_full_window_takes_the_latest :
    (windowWinner
        [⟨⟨812, 0⟩, 1, 0, none, 0, ⟨0, 0, 0⟩⟩, ⟨⟨815, 0⟩, 2, 0, none, 0, ⟨0, 0, 0⟩⟩, ⟨⟨812, 0⟩, 3, 0, none, 0, ⟨0, 0, 0⟩⟩,
          ⟨⟨815, 0⟩, 4, 0, none, 0, ⟨0, 0, 0⟩⟩]).map (fun c => (c.reading.value, c.counter)) = some (815, 4) := by
  decide +kernel

/-! ### States of the tests -/

/-- The scan has found every slot FREE and the queue has drained. -/
def quiet : State :=
  { State.reset with
    sm := { State.reset.sm with scan := .done, nextSeq := 1 }
    ins := { State.reset.ins with entries := [] } }

/-- Command parameters as the host writes them. -/
def params (ws : List Word) (s : State) : State :=
  { s with path := { s.path with shadow := (List.range ws.length).map fun n => (n + 1, ws.getD n 0) } }

/-- A header with the right length and check byte. -/
def header (c : HostCommand) (s : State) : CmdHeader :=
  ⟨BitVec.ofNat 8 (paramWords c), 7, checkByte (commitParams c ⟨BitVec.ofNat 8 (paramWords c), 7, 0, 0⟩ s), 0⟩

def image (id : Word) (segment : Nat) : MeterImage := ⟨id, 3, segment, false, false, none, ⟨500, 0⟩, 0, 0⟩

/-- Route 23 is OPEN with two meters and two segments. -/
def routed : State :=
  { quiet with
    route :=
      { quiet.route with
        state := .opened, number := 23, params := ⟨2, 2, 2, 1, 100, 50, 1000, 5000⟩
        segs := [⟨.waiting, 2⟩, ⟨.waiting, 0⟩], active := ⟨0xFF92#16, 500, 20, 5⟩, staged := ⟨0xFF92#16, 500, 20, 5⟩ }
    dir := [newMeter (image 0xA1 0), newMeter (image 0xA2 0)]
    sm := { quiet.sm with roster := [⟨23, 0, true⟩] } }

def inState (r : RouteState) (s : State) : State := { s with route := { s.route with state := r } }
def inSegment (g : Nat) (s : State) : State := { s with route := { s.route with activeSeg := some g } }
def faulted (s : State) : State := { s with flt := { s.flt with storeError := true } }

/-- Slot 5 holds a STORED record of route 9 with sequence number 40. -/
def stored : State :=
  { quiet with
    sm := { quiet.sm with slots := [(5, .record ⟨.stored, .reading, 40, 9, false, false⟩)], roster := [⟨9, 1, false⟩] } }

/-- Batch 1 holds slot 5. -/
def batched (st : BatchState) (mask : BitVec 16) : State :=
  { stored with
    sm := { stored.sm with slots := [(5, .record ⟨.inBatch, .reading, 40, 9, false, false⟩)] }
    up := ⟨some ⟨st, 1, [⟨5, 40, 0, mask⟩], 0xABCD#32, 0, 1, crc32Init, 0⟩, 2, 1⟩ }

/-- A burst of meter 0xA1, kind 1, reading 812, counter 1, with its check code, at -90 dBm. -/
def burst : Burst :=
  ⟨4, true, [0xA1, 0x00010003#32, 812, 0x01000000#32, 0, 0, 0,
    place (crc16 (wordBytes [0xA1, 0x00010003#32, 812, 0x01000000#32, 0, 0, 0])) 0], 0xA6#32, 0, none, false⟩

def judging (r : RouteState) (b : Burst) : State :=
  { inState r routed with cap := { routed.cap with judgeQ := [b] } }

/-- A clean read. -/
def clean : Disturb := ⟨0, 0⟩
/-- A read with one parity bit wrong. -/
def torn : Disturb := ⟨0, 1⟩

/-- Slot 3 of the TX Ring holds a frame for meter 0, attempt `a`, in sub-state `sub`. -/
def polled (a : Byte) (sub : PollSub) : State :=
  { routed with
    dir := [{ newMeter (image 0xA1 0) with state := .polling, attempts := a }, newMeter (image 0xA2 0)]
    poll := { routed.poll with list := [⟨0, a, some ⟨0, 0, 0⟩, sub⟩], tx := [(3, .awaiting)] } }

/-! ### Hypotheses that can be met -/

theorem witness_accepted : ∀ c ∈ hostCommands, Accepted c (header c quiet) quiet := by decide +kernel

theorem witness_empty_queue :
    (Awake quiet ∧ quiet.pending = [] ∧ quiet.flt.detector + 1 < 4096) ∧
      (Awake { quiet with flt := { quiet.flt with detector := 4095 } } ∧ 4096 ≤ 4095 + 1) := by decide +kernel

/-- Three writes fill the last three places of the queue. -/
def nearlyFull : State :=
  { quiet with
    ins :=
      { quiet.ins with
        entries := List.replicate 61 ⟨0, 0, .pollUnit, false⟩, throttle := true
        outbox := [(.pollUnit, .word 4 1 false), (.pollUnit, .word 8 2 false), (.captureUnit, .word 12 3 false)] } }

theorem witness_writes_join :
    (changedStatus nearlyFull nearlyFull = [] ∧ nearlyFull.ins.waits = [] ∧ nearlyFull.ins.heldBody = none ∧
        nearlyFull.ins.laterLocks = [] ∧ nearlyFull.ins.ackFifo = [] ∧
        nearlyFull.ins.outbox =
          [(Producer.pollUnit, 4, 1#32), (.pollUnit, 8, 2#32), (.captureUnit, 12, 3#32)].map
            (fun w => (w.1, QWrite.word w.2.1 w.2.2 false)) ∧
        nearlyFull.ins.entries.length + 3 ≤ 64) ∧
      (Awake quiet ∧ ({ quiet.ins with entries := List.replicate 63 ⟨0, 0, .pollUnit, false⟩ } : Inserts).entries.length < 64) := by
  decide +kernel

/-- A waiting status write of the Route Clock, and an event that changes that word alone. -/
theorem witness_status_joins :
    (changedStatus quiet { quiet with clk := ⟨7, 0⟩ } = [3] ∧ quiet.ins.outbox = [] ∧ quiet.ins.heldBody = none ∧
        quiet.ins.laterLocks = [] ∧ quiet.ins.ackFifo = []) ∧
      statusWord quiet 3 ≠ statusWord { quiet with clk := ⟨7, 0⟩ } 3 ∧ statusWord quiet 31 = statusWord routed 31 ∧
      ((∀ j, j < 32 → (0x7C : Nat) ≠ statusAddr 0 j) ∧ ∀ j, j < 32 → (0x100 : Nat) ≠ statusAddr 0 j) ∧
      ({ quiet.ins with
          waits := [(.pathUnit, [.status 31])]
          entries := List.replicate 63 ⟨0, 0, .pollUnit, false⟩ } : Inserts).entries.length < 64 := by
  decide +kernel

theorem witness_status_writes :
    (([⟨statusAddr 0 3, 1, .pathUnit, false⟩] : List QEntry) = [] ++ ⟨statusAddr 0 3, 1, .pathUnit, false⟩ :: []) ∧
      ((∀ x ∈ quiet.ins.entries, x.addr ≠ statusAddr 0 3) ∧ quiet.ins.waits = [] ∧ quiet.ins.entries.length < 64) := by
  decide +kernel

theorem witness_store : Memory.wf State.reset.store = true := by decide

/-- R3: byte enables 0 and 2 change bytes 0 and 2 alone. -/
theorem test_partial_write :
    let st := (Store.write ⟨[], []⟩ 0x70 ⟨0x44332211#32, 0⟩ allLanes).write 0x70 ⟨0xDDCCBBAA#32, 0xF#4⟩ 0b0101#4
    st.word 0x70 = 0x44CC22AA#32 ∧ st.parity 0x70 = 0b0101#4 := by decide +kernel

theorem witness_store_frame : ∃ t, exec .insertIssue State.reset = .next t := ⟨_, rfl⟩

theorem witness_data_form : DataInv State.reset :=
  ⟨by decide +kernel, by decide, by decide,
    ⟨by decide, (fun _ h => nomatch h), by decide, (fun _ h => nomatch h),
      (fun _ _ h => by injection h with h _; omega), (fun _ _ h => nomatch h)⟩⟩

theorem witness_invariants :
    QueueInv State.reset ∧ CaptureInv State.reset ∧ ListInv State.reset ∧ CounterInv State.reset := by
  unfold QueueInv CaptureInv ListInv CounterInv
  decide +kernel

theorem witness_batch_invariant : BatchInv State.reset := ⟨by decide, fun _ h => nomatch h⟩

/-- In `stored` no slot is in a batch, and there is none. -/
theorem witness_batch_law : BatchLaw stored := by
  refine ⟨fun k => ⟨?_, fun ⟨_, h, _⟩ => (nomatch h)⟩, (fun _ h => nomatch h), (fun h => absurd rfl h),
    (fun _ h => nomatch h)⟩
  rintro ⟨r, h, hr⟩
  by_cases hk : k = 5
  · subst hk
    cases h
    cases hr
  · have : stored.rowOf k = none := by
      simp [State.rowOf, stored, lookup, Ne.symm hk]
    rw [this] at h
    cases h

/-- Meter 0 is POLLING and holds the one entry of the Poll List. -/
theorem witness_poll_invariant : PollInv (polled 1 .queued) := by
  refine ⟨by decide +kernel, by decide +kernel, fun i => ?_, (fun h => absurd rfl h), (fun _ h => nomatch h)⟩
  rcases i with _ | _ | i
  · exact ⟨fun _ => ⟨_, rfl, rfl⟩, fun _ => ⟨_, .head _, rfl⟩⟩
  · refine ⟨fun ⟨e, he, h⟩ => ?_, fun ⟨m, hm, h⟩ => ?_⟩
    · cases he with
      | head => cases h
      | tail _ h' => cases h'
    · cases hm
      cases h
  · refine ⟨fun ⟨e, he, h⟩ => ?_, fun ⟨m, hm, h⟩ => ?_⟩
    · cases he with
      | head => cases h
      | tail _ h' => cases h'
    · cases hm

theorem witness_queue_without_waits : QueueInv quiet ∧ quiet.ins.throttle = false := by
  unfold QueueInv
  decide +kernel

theorem witness_reset :
    ({ quiet with path := { quiet.path with resetAsserted := true } } : State).path.resetAsserted = true ∧
      isResetCommand .composition = false := by decide

theorem witness_plain_access :
    BusFree quiet ∧ windowOf quiet.path.areaSel (accessAddr 0x200000#32) = .plain ∧
      windowOf quiet.path.areaSel (accessAddr 0x70#32) = .plain ∧ NotQueued quiet (accessAddr 0x70#32) ∧
      quiet.ins.newest (accessAddr 0x70#32) = none := by decide +kernel

/-- An unlocked STORED record: its words 14 and 15 are the host's. -/
theorem witness_passing_writes :
    (BusFree stored ∧ windowOf 0 (accessAddr 0x40178#32) = .record 5 14 ∧ blockReason stored (.record 5 14) = none) ∧
      (windowOf 0 (accessAddr 0x10000#32) = .image 0 ∧ quiet.route.state ≠ .loading) ∧
      (windowOf 0 (accessAddr 0x101C#32) = .tx 0 7 ∧ (7#4) ≠ allLanes) ∧
      (windowOf 0 (accessAddr 0#32) = .command 0 ∧ windowOf 0 (accessAddr 0x3C#32) = .command 15) ∧
      (windowOf 0 (accessAddr 0x60#32) = .position 0 ∧ windowOf 0 (accessAddr 0x6C#32) = .position 3) ∧
      (windowOf 0 (accessAddr 0x4004#32) = .capture 0 1 ∧ windowOf 0 (accessAddr 0x7FFC#32) = .capture 255 15) := by
  decide +kernel

theorem witness_reads :
    (BusFree quiet ∧ Answers quiet (accessAddr 0x70#32) ⟨5, 1⟩ ⟨5, 1⟩) ∧
      (BusFree State.reset ∧ State.reset.ins.newest (accessAddr 0xFC#32) = some ⟨0xFC, 0, .pathUnit, false⟩) :=
  ⟨⟨by decide, .inr (by decide +kernel)⟩, by decide +kernel⟩

/-- One write of `data` to the word at `a` is queued. -/
def queued (a : Nat) (data : Word) (s : State) : State :=
  { s with ins := { s.ins with entries := [⟨a, data, .captureUnit, false⟩] } }

theorem witness_cancelled :
    (BusFree (queued 0x70 1 quiet) ∧ ∃ e ∈ (queued 0x70 1 quiet).ins.entries, e.addr = accessAddr 0x70#32) ∧
      (BusFree (queued (captureAddr 0 255 15) 0x10 quiet) ∧ accessAddr 0x7FFC#32 = captureAddr 0 255 15 ∧
        canonical CapSlot.clear (queued (captureAddr 0 255 15) 0x10 quiet).cap.slots = true ∧
        ((queued (captureAddr 0 255 15) 0x10 quiet).capSlot 255).armed = false) := by decide +kernel

theorem witness_blocked_write :
    (BusFree quiet ∧ blockReason quiet (windowOf quiet.path.areaSel (accessAddr 0x40#32)) = some .partWord) ∧
      ((6 ≤ 6 ∧ 13 ≤ 13 ∧ 14 ≤ 14) ∧ (batched .opened 0).slotState 5 = .inBatch ∧
        quiet.slotState 0 ∈ [SlotState.unscanned, .quarantined, .free, .writing] ∧ stored.slotState 5 = .stored ∧
        stored.rowOf 5 = some ⟨.stored, .reading, 40, 9, false, false⟩) := by decide +kernel

theorem witness_windows :
    windowOf 7 (recordAddr 7 8191 15) = .record 8191 15 ∧ windowOf 7 (imageAddr 7 32783) = .image 32783 ∧
      windowOf 0 (captureAddr 0 255 15) = .capture 255 15 ∧ windowOf 0 (manifestAddr 0 1027) = .manifest 1027 ∧
      windowOf 0 (txAddr 0 31 7) = .tx 31 7 ∧
      (∀ off ∈ [0x70, 0x7C, 0x100, 0xFFC, 0x1400, 0x1FFC, 0x3010, 0x3FFC, 0x8000, 0xFFFC, 0x30040, 0x3FFFC, 0xC0000,
          0x1FFFFC, 0x200000], windowOf 0 off = .plain) ∧
      windowOf 7 0xDFFFFC = .plain ∧ windowOf 7 0x1000000 = .plain := by decide +kernel

def throttled : State := { quiet with ins := { quiet.ins with throttle := true } }
def holding (a : Access) (r : HoldReason) : State := { quiet with path := { quiet.path with held := some ⟨a, r⟩ } }

theorem witness_held :
    (Awake throttled ∧ throttled.path.held = none ∧ throttled.ins.throttle = true) ∧
      (Awake (holding (.write (accessAddr 0x70#32) ⟨1, 0⟩ 0xF#4) .throttle) ∧
        (holding (.write (accessAddr 0x70#32) ⟨1, 0⟩ 0xF#4) .throttle).ins.throttle = false) ∧
      (Awake (holding (.write (captureAddr 0 255 15) ⟨1, 0⟩ allLanes) .judgeQueue) ∧
        (holding (.write (captureAddr 0 255 15) ⟨1, 0⟩ allLanes) .judgeQueue).cap.judgeQ.length < 16) ∧
      (heldDue (holding (.write (accessAddr 0x70#32) ⟨1, 0⟩ 0xF#4) .throttle) = true ∧
        nextRead { holding (.read 0x70 0xF#4 ⟨0, 0⟩) .throttle with
          sm := { quiet.sm with scan := .slots 0 [] } } = some (recordAddr 0 0 0)) := by
  decide +kernel

theorem witness_status_reads :
    (BusFree quiet ∧ (31 : BitVec 5) ≠ 0 ∧
        ({ quiet with path := { quiet.path with snapshot := some (statusWords quiet) } } : State).path.snapshot =
          some (statusWords quiet)) ∧
      (quiet.path.snapshot = none ∧ quiet.ins.newest (statusAddr 0 1) = none) ∧
      (State.reset.path.snapshot = none ∧
        State.reset.ins.newest (statusAddr 0 1) = some ⟨statusAddr 0 1, 0, .pathUnit, false⟩ ∧ BusFree State.reset) := by
  decide +kernel

def inFlight : State := { quiet with cmd := { quiet.cmd with inFlight := true, running := some ⟨1, 7, none⟩ } }

theorem witness_collision :
    BusFree inFlight ∧ NotQueued inFlight (commandAddr inFlight.path.areaSel 0) ∧ inFlight.cmd.inFlight = true := by
  decide +kernel

theorem witness_common_checks :
    Begins quiet ∧
      (⟨0, 7, ~~~(header .routeOpen quiet).check, 0⟩ : CmdHeader).check ≠
        checkByte (commitParams .routeOpen ⟨0, 7, ~~~(header .routeOpen quiet).check, 0⟩ quiet) ∧
      (∃ h ∈ [(⟨16, 7, checkByte (commitParams .routeOpen ⟨16, 7, 0, 0⟩ quiet), 0⟩ : CmdHeader)],
        h.check = checkByte (commitParams .routeOpen h quiet) ∧ h.length.toNat ≠ paramWords .routeOpen) ∧
      (Begins State.reset ∧ (header .faultClear State.reset).check =
          checkByte (commitParams .faultClear (header .faultClear State.reset) State.reset) ∧
        State.reset.scanDone = false) := by decide +kernel

/-- Command Slot word 0 with the code 0x7F, which is in no table, and its check byte. -/
def strangeWord : Word := 0x00077F00#32 ||| (checkByte [0x00077F00#32]).setWidth 32 <<< 24

theorem witness_bad_code :
    Begins quiet ∧ accessAddr 0#32 = commandAddr quiet.path.areaSel 0 ∧ canonical 0 quiet.path.shadow = true ∧
      checkByte (strangeWord :: ((List.range 15).map fun n => getD 0 quiet.path.shadow (n + 1))) =
        bits strangeWord 24 8 ∧ ∀ c ∈ hostCommands, codeOf c ≠ bits strangeWord 8 8 := by decide +kernel

theorem witness_event_enable :
    (∀ s ∈ [params [0x1FF, 0] quiet, params [0x200, 0] quiet, params [0, 0x80000000#32] quiet],
        Accepted .eventEnable (header .eventEnable s) s) ∧
      (bits (hostParam (params [0x1FF, 0x1FF] quiet) 1) 9 23 = 0 ∧ bits (hostParam (params [0x1FF, 0x1FF] quiet) 2) 9 23 = 0) ∧
      bits (hostParam (params [0x200, 0] quiet) 1) 9 23 ≠ 0 := by decide +kernel

theorem witness_event_clear :
    (∀ s ∈ [params [0x1FF] quiet, params [0] quiet, params [0x200] quiet],
        Accepted .eventClear (header .eventClear s) s) ∧
      hostParam (params [0x1FF] quiet) 1 ≠ 0 ∧ bits (hostParam (params [0x1FF] quiet) 1) 9 23 = 0 ∧
      hostParam (params [0] quiet) 1 = 0 ∧ bits (hostParam (params [0x200] quiet) 1) 9 23 ≠ 0 := by decide +kernel

theorem witness_threshold_stage :
    (∀ s ∈ [params [-20, 1, 2, 65535] routed, params [-141, 1, 2, 3] routed, params [-140, 1, 2, 65536] routed,
        params [-140, 1, 2, 3] quiet], Accepted .thresholdStage (header .thresholdStage s) s) ∧
      (hostParam (params [-20, 1, 2, 65535] routed) 1).toInt = -20 ∧
      (hostParam (params [-141, 1, 2, 3] routed) 1).toInt < -140 ∧
      65535 < (hostParam (params [-140, 1, 2, 65536] routed) 4).toNat ∧ routed.route.state = .opened ∧
      quiet.route.state ≠ .opened := by decide +kernel

theorem witness_threshold_nudge :
    (∀ s ∈ [params [0, 1] routed, params [1, 1] routed, params [2, 1] routed, params [3, 1] routed, params [4, 1] routed,
        params [0, 1] quiet], Accepted .thresholdNudge (header .thresholdNudge s) s) ∧
      3 < (hostParam (params [4, 1] routed) 1).toNat ∧ hostParam (params [3, 1] routed) 1 = 3 := by decide +kernel

theorem witness_segments :
    (∀ s ∈ [params [1] routed, params [2] routed, params [0] (inSegment 0 routed), params [0] quiet],
        Accepted .segmentEnter (header .segmentEnter s) s) ∧
      ((hostParam (params [1] routed) 1).toNat < routed.route.params.segCount.toNat ∧
        routed.route.segs[1]? = some ⟨.waiting, 0⟩ ∧ routed.route.activeSeg = none) ∧
      routed.route.params.segCount.toNat ≤ (hostParam (params [2] routed) 1).toNat ∧
      (inSegment 0 routed).route.activeSeg = some 0 ∧
      ((hostParam (params [0] (inSegment 0 routed)) 1).toNat = 0 ∧
        (inSegment 0 routed).route.segs[0]? = some ⟨.waiting, 2⟩ ∧ walkOf (inSegment 0 routed) 0 = [0, 1] ∧
        walkOf (inSegment 0 routed) 1 = []) ∧
      (∀ s ∈ [quiet, routed, inSegment 0 routed], Accepted .segmentLeave (header .segmentLeave s) s) := by decide +kernel

theorem witness_poll_now :
    (∀ s ∈ [params [0xA1] routed, params [0xA1] (polled 1 .queued), params [0xFF] routed, params [0xA1] quiet],
        Accepted .pollNow (header .pollNow s) s) ∧
      findMeter routed.dir 0xA1 = some 0 ∧ findMeter routed.dir 0xFF = none ∧
      routed.dir[0]? = some (newMeter (image 0xA1 0)) ∧ (newMeter (image 0xA1 0)).state = .expected ∧
      (polled 1 .queued).dir[0]? = some { newMeter (image 0xA1 0) with state := .polling, attempts := 1 } ∧
      (∀ e ∈ (polled 1 .queued).poll.list, ∀ m ∈ (polled 1 .queued).dir[e.index]?, m.state = .polling) := by
  decide +kernel

/-- R85: a segment in SWEEP with one unresolved meter becomes DONE with SEGMENT_DONE, one with two does not; a meter polled
again raises the count. -/
theorem test_segment_moves :
    movedSegs 0 .polling .unreachable [⟨.sweep, 1⟩] = [⟨.done, 0⟩] ∧
      movedSegs 0 .heard .read [⟨.sweep, 2⟩] = [⟨.sweep, 1⟩] ∧ movedSegs 0 .expected .read [⟨.active, 1⟩] = [⟨.active, 0⟩] ∧
      movedSegs 0 .unreachable .polling [⟨.done, 0⟩] = [⟨.done, 1⟩] ∧
      movedSegs 0 .expected .heard [⟨.sweep, 1⟩] = [⟨.sweep, 1⟩] ∧
      (movedEvents 0 .polling .unreachable [⟨.sweep, 1⟩] quiet.ev).marks ≠ 0 ∧
      movedEvents 0 .polling .unreachable [⟨.sweep, 2⟩] quiet.ev = quiet.ev := by decide +kernel

/-- Both meters' entries as they stand after a confirmation and before one (METER_QUERY). -/
def confirmed : State :=
  { routed with
    dir := [{ newMeter (image 0xA1 0) with state := .read, confirmed := some ⟨⟨0x123456789A, 7⟩, 55, none⟩ },
      newMeter (image 0xA2 0)] }

theorem witness_meter_query_confirmed :
    Accepted .meterQuery (header .meterQuery (params [0xA1] confirmed)) (params [0xA1] confirmed) ∧
      findMeter confirmed.dir 0xA1 = some 0 ∧
      (confirmed.dir[0]?.bind (fun m => m.confirmed)) = some ⟨⟨0x123456789A, 7⟩, 55, none⟩ := by decide +kernel

theorem witness_route_open :
    (∀ s ∈ [quiet, routed, faulted quiet], Accepted .routeOpen (header .routeOpen s) s) ∧
      quiet.route.state = .noRoute ∧ quiet.faultLatched = false ∧ (faulted quiet).faultLatched = true := by decide +kernel

theorem witness_route_close :
    (∀ s ∈ [quiet, routed, inState .closing routed], Accepted .routeClose (header .routeClose s) s) ∧
      routed.route.activeSeg = none ∧ routed.poll.list = [] ∧ routed.route.state = .opened ∧
      routed.dir[1]? = some (newMeter (image 0xA2 0)) ∧ (newMeter (image 0xA2 0)).requested = false ∧
      ({ newMeter (image 0xA2 0) with requested := true } : Meter).requested = true := by decide +kernel

theorem witness_route_close_walks :
    Accepted .routeClose (header .routeClose (inSegment 0 (polled 1 .queued))) (inSegment 0 (polled 1 .queued)) ∧
      (inSegment 0 (polled 1 .queued)).route.state = .opened ∧ walkOf (inSegment 0 (polled 1 .queued)) 0 = [1] ∧
      (inSegment 0 (polled 1 .queued)).poll.list.map (fun e => e.index) = [0] := by decide +kernel

theorem witness_meter_query :
    (∀ s ∈ [params [0xA2] quiet, params [0xA2] routed, params [0xFF] (inState .closing routed)],
        Accepted .meterQuery (header .meterQuery s) s) ∧
      findMeter routed.dir 0xA2 = some 1 ∧ (newMeter (image 0xA2 0)).window.length ≤ 4 := by decide +kernel

def oneTamper : State := { stored with tamper := ⟨[⟨9, 0xA1, cMeter, some 5⟩], 0, 0⟩ }

theorem witness_tamper_ack :
    (∀ s ∈ [params [0] oneTamper, params [1] oneTamper, params [2] oneTamper],
        Accepted .tamperAck (header .tamperAck s) s) ∧
      (hostParam (params [1] oneTamper) 1 ≠ 0 ∧
        (hostParam (params [1] oneTamper) 1).toNat ≤ oneTamper.tamper.list.length) ∧
      oneTamper.tamper.list.length < (hostParam (params [2] oneTamper) 1).toNat ∧
      oneTamper.rowOf 5 = some ⟨.stored, .reading, 40, 9, false, false⟩ ∧
      (oneTamper.tamper.list.take 1).getLast? = some ⟨9, 0xA1, cMeter, some 5⟩ := by decide +kernel

theorem witness_held_back_headers :
    headerJoined oneTamper oneTamper.ins 5 = true ∧
      headerJoined oneTamper { oneTamper.ins with heldBody := some ⟨5, []⟩ } 5 = false ∧
      headerJoined oneTamper
        { oneTamper.ins with waits := [(.storeManager, [.word (recordAddr 0 5 0) 0 true])] } 5 = false ∧
      oneTamper.rowOf 5 = some ⟨.stored, .reading, 40, 9, false, false⟩ ∧ oneTamper.ins.ties = [] ∧
      ({ oneTamper.ins with laterLocks := [6, 5] } : Inserts).laterLocks = [6] ++ [5] := by decide +kernel

theorem witness_upload_begin :
    (∀ s ∈ [params [512] stored, params [513] stored, params [1] quiet, params [1] (faulted stored),
        params [1] (batched .opened 0)], Accepted .uploadBegin (header .uploadBegin s) s) ∧
      (stored.up.batch = none ∧ stored.faultLatched = false ∧ stored.storedCount ≠ 0 ∧ quiet.storedCount = 0) ∧
      512 < (hostParam (params [513] stored) 1).toNat ∧ (hostParam (params [512] stored) 1).toNat ≤ 512 ∧
      (faulted stored).faultLatched = true ∧ (batched .opened 0).up.batch ≠ none ∧
      risingFrom 0 stored.sm.slots = true := by decide +kernel

theorem witness_upload_ack :
    (∀ s ∈ [params [1, 0xABCD] (batched .fetched 0xFFFF), params [1, 0] (batched .fetched 0xFFFF),
        params [1, 0] (batched .opened 0), params [0x10001, 0] (batched .opened 0), params [1, 0] quiet],
        Accepted .uploadAck (header .uploadAck s) s) ∧
      hostParam (params [1, 0xABCD] (batched .fetched 0xFFFF)) 1 = (1#16).setWidth 32 ∧
      hostParam (params [0x10001, 0] (batched .opened 0)) 1 ≠ (1#16).setWidth 32 ∧
      risingFrom 0 (batched .fetched 0xFFFF).sm.slots = true ∧
      ([⟨5, 40, 0, 0xFFFF⟩].map (fun it : BatchItem => it.slot)).Nodup := by decide +kernel

theorem witness_upload_abandon :
    ∀ s ∈ [params [1] (batched .fetched 0xFFFF), params [2] (batched .opened 0), params [1] quiet],
      Accepted .uploadAbandon (header .uploadAbandon s) s := by decide +kernel

def answering (n : Nat) : State :=
  { quiet with
    cmd := ⟨true, false, [], some ⟨1, 7, some ⟨0, [], false⟩⟩⟩
    ins := { quiet.ins with entries := List.replicate n ⟨0, 0, .pollUnit, false⟩, resp0 := true } }

theorem witness_flight_end :
    (Awake (answering 63) ∧ (answering 63).ins.resp0 = true ∧ (answering 63).ins.entries.length < 64 ∧
        (answering 63).ins.waits = []) ∧
      (64 ≤ (answering 64).ins.entries.length ∧ (answering 64).ins.isWaiting .commandUnit = false) ∧
      (answering 56).ins.entries.length + 7 < 64 ∧
      (({ (answering 63).ins with resp0 := false, waits := [(.commandUnit, [.response0])] } : Inserts).entries.length <
        64) := by decide +kernel

/-- Response word 0 is due while the producers of `w` wait. -/
def answeringBehind (n : Nat) (w : List (Producer × List QWrite)) : State :=
  { answering n with ins := { (answering n).ins with waits := w } }

theorem witness_flight_waits :
    (∀ s ∈ [answering 64, answeringBehind 63 [(.pollUnit, [.word 0 0 false])],
        answeringBehind 64 [(.pollUnit, [.word 0 0 false]), (.commandUnit, [.word 4 0 false]), (.tamperUnit, [.header 5])]],
        Awake s ∧ s.ins.resp0 = true ∧ (64 ≤ s.ins.entries.length ∨ s.ins.waits ≠ [])) ∧
      (∀ s ∈ [answering 64, answeringBehind 63 [(.pollUnit, [.word 0 0 false])]], ∀ x ∈ s.ins.waits, x.1 ≠ .commandUnit) ∧
      ∀ x ∈ [(Producer.pollUnit, [QWrite.word 0 0 false]), (.tamperUnit, [.header 5])], x.1 ≠ .commandUnit := by
  decide +kernel

/-- With 60 entries the first four response words join and the others wait, word 0 last. -/
theorem test_response_waits :
    let i := giveResponse (answering 60) { (answering 60).ins with resp0 := false }
    (i.entries.drop 60).map (fun e => e.addr) = [1, 2, 3, 4].map (responseAddr 0) ∧
      i.waits =
        [(.commandUnit, [5, 6, 7].map (fun w => .word (responseAddr 0 w) 0 false) ++ [.response0])] ∧
      i.resp0 = false := by decide +kernel

def issuing (k : Kind) : State :=
  { quiet with
    sm := { quiet.sm with slots := [(8191, .record ⟨.writing, k, 1, 23, false, false⟩)] }
    ins := { quiet.ins with entries := [⟨recordAddr 0 8191 0, 0x1A5#32, .storeManager, true⟩] } }

/-- The first record of meter 0xA1 stands in slot 5, in state `st`; its composition header is the store manager's. -/
def recorded (st : RecState) : State :=
  { routed with
    dir := [{ newMeter (image 0xA1 0) with first := some ⟨5, 40⟩ }, newMeter (image 0xA2 0)]
    sm := { routed.sm with slots := [(5, .record ⟨st, .reading, 40, 23, false, false⟩)] }
    ins :=
      { routed.ins with
        heldBody := if st = .writing then some ⟨5, []⟩ else none } }

theorem witness_issue :
    (Awake State.reset ∧ State.reset.path.lastGrant = .insertedRead ∧
        heldDue State.reset = false ∧ State.reset.ins.entries.head? = some ⟨0x80, 0, .pathUnit, false⟩) ∧
      (∀ k ∈ [Kind.reading, .summary],
        Awake (issuing k) ∧ readWaits (issuing k) = false ∧ heldDue (issuing k) = false ∧
          (issuing k).rowOf 8191 = some ⟨.writing, k, 1, 23, false, false⟩) ∧
      ((issuing .summary).route.state ≠ .closing ∧ (inState .closing (issuing .summary)).route.state = .closing ∧
        heldDue (inState .closing (issuing .summary)) = false ∧ readWaits (inState .closing (issuing .summary)) = false ∧
        (inState .closing (issuing .summary)).rowOf 8191 = some ⟨.writing, .summary, 1, 23, false, false⟩) ∧
      (recorded .stored).rowOf 5 = some ⟨.stored, .reading, 40, 23, false, false⟩ := by decide +kernel

/-- A producer that waits beside a free place gains it before a further entry is issued. -/
theorem witness_due_join :
    (answeringBehind 63 [(.pollUnit, [.word 0 0 false])]).ins.waits ≠ [] ∧
      (answeringBehind 63 [(.pollUnit, [.word 0 0 false])]).ins.entries.length < 64 ∧ State.reset.ins.waits = [] ∧
      64 ≤ (answering 64).ins.entries.length := by decide +kernel

def fixed : State := { quiet with cap := { quiet.cap with fix := some ⟨1, 2, 3, 4, 9⟩ } }

theorem witness_position_commit :
    (BusFree fixed ∧ NotQueued fixed (positionAddr fixed.path.areaSel 3) ∧ canonical 0 fixed.path.shadow = true) ∧
      bits 0x00090001#32 16 16 = 9#16 ∧ bits 0x000A0000#32 16 16 ≠ 9#16 := by decide +kernel

def slotOf (armed unread : Bool) : State :=
  { quiet with cap := { quiet.cap with slots := [(255, ⟨armed, unread, 5, none, false⟩)] } }

theorem witness_capture_arm :
    (BusFree quiet ∧ NotQueued quiet (captureAddr quiet.path.areaSel 255 0)) ∧ overrunAt quiet 255 = false ∧
      overrunAt (slotOf false true) 255 = true := by decide +kernel

def judgeQueueOf (n : Nat) (s : State) : State := { s with cap := { s.cap with judgeQ := List.replicate n burst } }

theorem witness_capture_commit :
    (BusFree (judgeQueueOf 15 (slotOf true false)) ∧ ((judgeQueueOf 15 (slotOf true false)).capSlot 255).armed = true ∧
        (judgeQueueOf 15 (slotOf true false)).cap.judgeQ.length < 16 ∧
        NotQueued (judgeQueueOf 15 (slotOf true false)) (captureAddr 0 255 15) ∧
        canonical CapSlot.clear (judgeQueueOf 15 (slotOf true false)).cap.slots = true) ∧
      (BusFree (queued (captureAddr 0 255 15) 0x10 (slotOf true true)) ∧
        ∃ e ∈ (queued (captureAddr 0 255 15) 0x10 (slotOf true true)).ins.entries, e.addr = captureAddr 0 255 15) ∧
      (16 ≤ (judgeQueueOf 16 (slotOf true false)).cap.judgeQ.length ∧ BusFree (judgeQueueOf 16 (slotOf true false))) ∧
      ((slotOf false false).capSlot 255).armed = false := by decide +kernel

theorem witness_verdict_read :
    (BusFree (slotOf false true) ∧ Answers (slotOf false true) (captureAddr 0 255 15) ⟨0x10, 1⟩ ⟨0x10, 1⟩ ∧
        canonical CapSlot.clear (slotOf false true).cap.slots = true) ∧
      (BusFree (queued (captureAddr 0 255 15) 0x10 (slotOf false true)) ∧
        (queued (captureAddr 0 255 15) 0x10 (slotOf false true)).ins.newest (captureAddr 0 255 15) =
          some ⟨captureAddr 0 255 15, 0x10, .captureUnit, false⟩) :=
  ⟨⟨by decide, .inr (by decide +kernel), by decide +kernel⟩, by decide +kernel⟩

theorem witness_unaccepted_bursts :
    (∀ r ∈ [RouteState.noRoute, .loading, .opened, .closing],
        Awake (judging r burst) ∧ (judging r burst).cap.judgeQ = [burst] ∧
          (judging r burst).ins.isWaiting .captureUnit = false ∧ (judging r burst).cap.deferred = [] ∧
          (judging r burst).route.state = r) ∧
      (burst.crcGood = true ∧ burst.frameGood = true ∧ routed.route.active.floor.toInt ≤ burst.rssi.toInt) ∧
      ({ burst with words := [] } : Burst).crcGood = false ∧
      (({ burst with words := [0, 0, 0, 0, 0, 0, 0, 0x8374] } : Burst).frameGood = false) ∧
      (({ burst with word14 := 0x80 } : Burst).rssi.toInt < routed.route.active.floor.toInt) ∧
      findMeter [] burst.meter = none ∧ burst.mark = true ∧ ({ burst with mark := false } : Burst).mark = false := by
  decide +kernel

def deferredFull : State :=
  { judging .loading burst with cap := { (judging .loading burst).cap with deferred := List.replicate 64 burst } }

theorem witness_full_deferred_list :
    Awake deferredFull ∧ deferredFull.cap.judgeQ = [burst] ∧ deferredFull.ins.isWaiting .captureUnit = false ∧
      deferredFull.route.state = .loading ∧ 64 ≤ deferredFull.cap.deferred.length := by decide +kernel

theorem witness_bad_frame_with_good_code :
    ({ burst with words := [0, 0, 0, 0, 0, 0, 0, place (crc16 (wordBytes [0, 0, 0, 0, 0, 0, 0])) 0] } : Burst).crcGood =
        true ∧
      ({ burst with words := [0, 0, 0, 0, 0, 0, 0, place (crc16 (wordBytes [0, 0, 0, 0, 0, 0, 0])) 0] } : Burst).frameGood =
        false := by decide +kernel

theorem witness_first_vote :
    Judged burst [] 0 (newMeter (image 0xA1 0)) (judging .opened burst) ∧ burst.kind = 1#8 ∧
      burstCauses (image 0xA1 0) burst.typeCode burst.meterFlags burst.counter = 0 ∧
      1 < routed.route.params.votesNeeded.toNat ∧
      confirmCauses (image 0xA1 0) burst.reading routed.route.active = 0 := by decide +kernel

def oneVote : State :=
  { judging .opened burst with
    route := { routed.route with params := { routed.route.params with votesNeeded := 1 } } }

theorem witness_first_vote_confirms :
    Judged burst [] 0 (newMeter (image 0xA1 0)) oneVote ∧ oneVote.route.params.votesNeeded = 1 ∧
      confirmCauses (image 0xA1 0) burst.reading oneVote.route.active = 0 := by decide +kernel

/-- The entry of meter 0xA1 in `st` with the vote window `w`, reading 812 confirmed once it is READ. -/
def voted (st : MeterState) (w : List Candidate) : Meter :=
  { newMeter (image 0xA1 0) with
    state := st, window := w, lastCounter := some 9
    confirmed := if st = .read then some ⟨⟨812, 0⟩, 55, none⟩ else none }

/-- `b` is to be judged in OPEN for that entry. -/
def voting (st : MeterState) (w : List Candidate) (b : Burst) : State :=
  { judging .opened b with dir := [voted st w, newMeter (image 0xA2 0)] }

/-- A candidate with reading `v` and counter `n`. -/
def cand (v : BitVec 48) (n : Half) : Candidate := ⟨⟨v, 0⟩, n, 0, none, 0xA6, ⟨0, 0, 0⟩⟩

/-- The burst of meter 0xA1 with these words 1 to 3 and its check code. -/
def burstOf (w1 w2 w3 : Word) : Burst :=
  { burst with words := [0xA1, w1, w2, w3, 0, 0, 0, place (crc16 (wordBytes [0xA1, w1, w2, w3, 0, 0, 0])) 0] }

/-- A response of meter 0xA1. -/
def response : Burst := burstOf 0x00010003#32 812 0x02000000#32

theorem witness_later_votes :
    (∀ w ∈ [[], [cand 811 2], [cand 812 2], [cand 809 2, cand 810 3, cand 809 4]],
        Judged burst [] 0 (voted .heard w) (voting .heard w burst) ∧ (∀ x ∈ w, x.counter ≠ burst.counter) ∧
          (voted .heard w).state ≠ .read) ∧
      (votesIn [cand 811 2, candidateOf burst 5000] burst.reading < 2 ∧
        2 ≤ votesIn [cand 812 2, candidateOf burst 5000] burst.reading ∧
        votesIn [cand 809 2, cand 810 3, cand 809 4, candidateOf burst 5000] burst.reading < 2 ∧
        ((∀ z ∈ [cand 809 2, cand 810 3, cand 809 4, candidateOf burst 5000],
            votesIn [cand 809 2, cand 810 3, cand 809 4, candidateOf burst 5000] z.reading ≤
              votesIn [cand 809 2, cand 810 3, cand 809 4, candidateOf burst 5000] (cand 809 4).reading) ∧
          ∀ z ∈ [candidateOf burst 5000],
            votesIn [cand 809 2, cand 810 3, cand 809 4, candidateOf burst 5000] z.reading <
              votesIn [cand 809 2, cand 810 3, cand 809 4, candidateOf burst 5000] (cand 809 4).reading)) := by
  decide +kernel

theorem witness_vote_flags :
    OrdinaryFlags burst 0 (voted .heard []) (voting .heard [] burst) 0 ∧
      OrdinaryFlags response 0 (voted .heard []) (voting .heard [] response) 0x400#32 ∧
      OrdinaryFlags response 0 (voted .unreachable []) (voting .unreachable [] response) 0xC00#32 := by
  refine ⟨.inl (by decide +kernel), .inr ⟨by decide +kernel, ?_, .inr ⟨?_, by decide +kernel⟩⟩,
    .inr ⟨by decide +kernel, ?_, .inl ⟨.inl (by decide +kernel), by decide +kernel⟩⟩⟩
  · intro e x h; cases h
  · rintro (h | ⟨e, r, h, _⟩) <;> cases h
  · intro e x h; cases h

theorem witness_poll_match :
    Judged response [] 0 { newMeter (image 0xA1 0) with state := .polling, attempts := 1 }
        { polled 1 (.listening 5) with cap := { routed.cap with judgeQ := [response] } } ∧
      response.kind = 2#8 ∧
      pollOf (polled 1 (.listening 5)) 0 = some ⟨0, 1, some ⟨0, 0, 0⟩, .listening 5⟩ := by decide +kernel

theorem witness_duplicates_and_repeats :
    (∀ b ∈ [burst, burstOf 0x00020003#32 812 0x01000000#32, burstOf 0x00020003#32 819 0x01000000#32],
        Judged b [] 0 (voted .read [cand 812 1]) (voting .read [cand 812 1] b)) ∧
      (cand 812 1).counter = burst.counter ∧ (cand 812 1).counter ≠ (burstOf 0x00020003#32 812 0x01000000#32).counter ∧
      (voted .read []).confirmed = some ⟨⟨812, 0⟩, 55, none⟩ ∧ (812#48).toNat - (812#48).toNat ≤ (5#16).toNat ∧
      ¬(819#48).toNat - (812#48).toNat ≤ (5#16).toNat := by decide +kernel

def held (b : Burst) : State := { inState .closing routed with cap := { routed.cap with deferred := [b] } }

theorem witness_held_burst :
    Awake (held burst) ∧ (held burst).cap.deferred = [burst] ∧ (held burst).ins.isWaiting .captureUnit = false ∧
      (held burst).route.state = .closing ∧ (inState .opened (held burst)).route.state ≠ .loading ∧
      (inState .opened (held { burst with mark := false })).cap.deferred = [{ burst with mark := false }] := by
  decide +kernel

theorem witness_causes :
    ((⟨9, 1⟩ : Reading).unit ≠ (⟨10, 0⟩ : Reading).unit) ∧ (9#48).toNat < (10#48).toNat ∧
      (10#48).toNat + 0 = (10#48).toNat := by decide

theorem witness_added_causes :
    (cMeter &&& ~~~cMeter = 0 ∧ cMeter &&& ~~~cClash ≠ 0) ∧ (newMeter (image 0xA1 0)).first = none ∧
      (newMeter (image 0xA1 0)).causes = 0 ∧
      (∀ st ∈ [RecState.stored, .writing],
        (recorded st).dir[0]? = some { newMeter (image 0xA1 0) with first := some ⟨5, 40⟩ } ∧
          (recorded st).rowOf 5 = some ⟨st, .reading, 40, 23, false, false⟩) ∧
      headerPending (recorded .stored) 5 = false ∧ headerPending (recorded .writing) 5 = true := by decide +kernel

def loading (l : Load) (r : RouteState) : State :=
  { inState r quiet with route := { (inState r quiet).route with load := some l } }

theorem witness_route_number :
    Awake (loading .number .noRoute) ∧ readReady (loading .number .noRoute) = true ∧
      (loading .number .noRoute).sm.scan = .done ∧ (loading .number .noRoute).route.load = some .number ∧
      (readResult (loading .number .noRoute) torn).2 = true ∧
      readResult (loading .number .noRoute) clean = (0, false) ∧
      readResult (loading .number .noRoute) ⟨23, 0⟩ = (23, false) := by decide +kernel

def scanning (sc : Scan) : State := { quiet with sm := { quiet.sm with scan := sc, workRoster := [⟨9, 1, false⟩] } }

theorem witness_inserted_read :
    nextRead (loading .number .noRoute) = some (imageAddr 0 1) ∧
      (loading .number .noRoute).ins.newest (imageAddr 0 1) = none ∧
      nextRead (scanning (.slots 8191 [0, 5])) = some (recordAddr 0 8191 2) ∧
      nextRead (scanning (.rebuild [5, 6] none)) = some (recordAddr 0 5 3) ∧
      nextRead (scanning (.rebuild [5] (some 0xA1))) = some (recordAddr 0 5 5) ∧
      nextRead (loading (.header 23 (List.replicate 15 0) 0) .loading) = some (imageAddr 0 15) ∧
      nextRead (loading (.entry 23 [] 4095 (List.replicate 7 0) 0) .loading) = some (entryAddr 0 4095 7) ∧
      nextRead { batched .building 0 with
        up := ⟨some ⟨.building, 1, [⟨5, 40, 0, 0⟩], 0, 0, 15, crc32Init, 3⟩, 2, 1⟩ } = some (recordAddr 0 5 15) ∧
      nextRead (batched .opened 0) = none := by decide +kernel

/-- R15: after an inserted read the queued write comes first, and the read has no turn. -/
theorem witness_read_waits :
    (readReady { queued 0x70 1 (loading .number .noRoute) with
        path := { quiet.path with lastGrant := .insertedRead } } = false ∧
      readReady { queued 0x70 1 (loading .number .noRoute) with
        path := { quiet.path with lastGrant := .queuedWrite } } = true ∧
      readReady (queued (imageAddr 0 1) 23 (loading .number .noRoute)) = true) := by decide +kernel

/-- The last entry of a one-meter image is being read; its check code is word 15 of the header. -/
def lastEntry : State :=
  let words : List Word := [0xA1, 0x00FF0003#32, 0, 0, 0, 0, 0]
  let crc := crc32Word (words.foldl crc32Word crc32Init) 0
  loading (.entry 23 [0, 23, 0x00010001#32, 1, 0, 0, 0xFF92#32, 0, 0, 0, 0, 0, 0, 0, 0, crc32Final crc] 0 words
    (words.foldl crc32Word crc32Init)) .loading

theorem witness_load :
    (∀ s ∈ [loading (.header 23 (List.replicate 14 0) crc32Init) .loading, lastEntry],
        Awake s ∧ readReady s = true ∧ s.sm.scan = .done ∧ (readResult s clean).2 = false ∧ (readResult s torn).2 = true) ∧
      (List.replicate 14 (0 : Word)).length < 15 ∧ readResult lastEntry clean = (0, false) ∧
      storedPath [0xA1, 0x00FF0003#32, 0, 0, 0, 0, 0, 0] = some none ∧ findMeter lastEntry.dir 0xA1 = none ∧
      storedPath [0xA1, 0x00030003#32, 0, 0, 0, 0, 0, 0] = none ∧
      findMeter { lastEntry with dir := [newMeter (image 0xA1 0)] }.dir 0xA1 = some 0 ∧
      canonical CapSlot.clear lastEntry.cap.slots = true ∧
      (lastEntry.route.load.map fun l => match l with
        | .entry _ h _ _ _ => bits (h.getD 2 0) 0 16
        | _ => 0) = some 1 := by
  decide +kernel

/-- A header whose fields lie in their ranges. -/
def goodHeader : List Word :=
  [0xC4A5E140#32, 23, 0x00010001#32, 1, 20, 0x00640064#32, 0xFFEC#32, 0, 0, 0, 0, 0, 0, 0, 0, 0]

theorem witness_header :
    HeaderInRange goodHeader 23 ∧ ¬HeaderInRange (List.replicate 16 0) 23 ∧
      readReady (loading (.header 23 (goodHeader.take 15) crc32Init) .loading) = true ∧
      (goodHeader.take 15).length = 15 ∧
      (readResult (loading (.header 23 (goodHeader.take 15) crc32Init) .loading) clean) = (0, false) := by
  unfold HeaderInRange
  decide +kernel

theorem witness_scan :
    (∀ sc ∈ [Scan.slots 0 [], .slots 8190 [0, 5], .slots 8191 [0, 5], .slots 0 [0x1A5, 5], .slots 0 [0x12345678, 5],
        .rebuild [5] none, .rebuild [5, 6] (some 0xA1)],
        Awake (scanning sc) ∧ readReady (scanning sc) = true ∧ (readResult (scanning sc) clean).2 = false ∧
          (readResult (scanning sc) torn).2 = true) ∧
      validHeader 0x1A5 5 9 = some .reading ∧ validHeader 0x12345678 5 9 = none ∧
      readResult (scanning (.slots 0 [0x1A5, 5])) ⟨9, 1⟩ = (9, true) ∧
      readResult (scanning (.slots 0 [0x1A5, 5])) ⟨9, 0⟩ = (9, false) ∧
      (scanning (.rebuild [5, 6] (some 0xA1))).tamper.list.length < 128 := by decide +kernel

/-- The rebuild has read word 3 of slot 5's record. -/
def rebuilding : State :=
  { scanning (.rebuild [5, 6] (some 0xA1)) with
    sm :=
      { (scanning (.rebuild [5, 6] (some 0xA1))).sm with
        findings :=
          [(5, .record ⟨.stored, .reading, 40, 9, true, false⟩), (6, .record ⟨.stored, .reading, 41, 9, true, false⟩)] } }

theorem witness_rebuild :
    Awake rebuilding ∧ readReady rebuilding = true ∧ (readResult rebuilding clean).2 = false ∧
      rebuilding.sm.scan = .rebuild [5, 6] (some 0xA1) ∧ rebuilding.tamper.list.length < 128 ∧
      lookup rebuilding.sm.findings 5 = some (.record ⟨.stored, .reading, 40, 9, true, false⟩) := by decide +kernel

/-- The build of batch 1 has come to word `w` of the first of two records. -/
def buildingAt (w : Nat) : State :=
  { batched .building 0 with
    up := ⟨some ⟨.building, 1, [⟨5, 40, 0, 0⟩, ⟨6, 41, 0, 0⟩], 0, 0, w, crc32Init, 3⟩, 2, 1⟩ }

theorem witness_slot_decided :
    SlotDecided (scanning (.slots 0 [0x1A5, 5])) 0 [0x1A5, 5] 9 false [(0, .record ⟨.stored, .reading, 5, 9, false, false⟩)]
        [⟨9, 2, false⟩] (some 5) ∧
      SlotDecided (scanning (.slots 0 [0x1A5, 5])) 0 [0x1A5, 5] 8 false [(0, .record ⟨.stored, .reading, 5, 8, false, false⟩)]
        [⟨9, 1, false⟩, ⟨8, 1, false⟩] (some 5) ∧
      SlotDecided (scanning (.slots 8191 [0, 5])) 8191 [0, 5] 9 false [] [⟨9, 1, false⟩] none ∧
      SlotDecided (scanning (.slots 8191 [0])) 8191 [0] 9 true [(8191, .quarantined)] [⟨9, 1, false⟩] none :=
  ⟨.inr ⟨rfl, _, _, rfl, .inr (.inr ⟨.reading, _, by decide +kernel, by decide +kernel, rfl, by decide +kernel,
      .inl (by decide +kernel)⟩)⟩,
    .inr ⟨rfl, _, _, rfl, .inr (.inr ⟨.reading, _, by decide +kernel, by decide +kernel, rfl, by decide +kernel,
      .inr (.inl (by decide +kernel))⟩)⟩,
    .inr ⟨rfl, _, _, rfl, .inl (by decide +kernel)⟩, .inl (by decide +kernel)⟩

def crowded : State :=
  { quiet with
    sm :=
      { quiet.sm with
        scan := .slots 0 [0x1A5, 5]
        workRoster := (List.range 16).map fun n => ⟨BitVec.ofNat 16 (n + 1), 1, false⟩ } }

theorem witness_full_working_roster :
    readReady crowded = true ∧ (∀ e ∈ crowded.sm.workRoster, e.route ≠ 23) ∧ 16 ≤ crowded.sm.workRoster.length := by
  decide +kernel

theorem witness_scan_end :
    (∃ j r, ToRebuild [(5, .record ⟨.stored, .reading, 40, 9, true, false⟩)] j r) ∧
      risingFrom 0 [(5, SlotRow.record ⟨.stored, .reading, 40, 9, true, false⟩)] = true :=
  ⟨⟨5, ⟨.stored, .reading, 40, 9, true, false⟩, by unfold ToRebuild; decide +kernel⟩, by decide +kernel⟩

theorem witness_build :
    ∀ w ∈ [14, 15],
      Awake (buildingAt w) ∧ readReady (buildingAt w) = true ∧ (buildingAt w).sm.scan = .done ∧
        (buildingAt w).route.load = none ∧ readResult (buildingAt w) clean = (0, false) ∧
        (readResult (buildingAt w) torn).2 = true := by decide +kernel

/-- Word 15 of the one record of batch 1 is being read. -/
def buildEnding (mask : Nat) : State :=
  { batched .building 0 with
    up := ⟨some ⟨.building, 1, [⟨5, 40, 0, BitVec.ofNat 16 mask⟩], 0, 0, 15, crc32Init, 3⟩, 2, 1⟩ }

theorem witness_build_end :
    ∀ mask ∈ [0, 0xFFFF],
      Awake (buildEnding mask) ∧ readReady (buildEnding mask) = true ∧ (buildEnding mask).sm.scan = .done ∧
        (buildEnding mask).route.load = none ∧ readResult (buildEnding mask) clean = (0, false) := by decide +kernel

def backlogged (req : Request) : State := { routed with sm := { routed.sm with backlog := [req] } }

theorem witness_composition :
    ∀ req ∈ [Request.summary, .reading 1, .miss 1 .notHeard, .note 1],
      Awake (backlogged req) ∧ (backlogged req).sm.scan = .done ∧ (backlogged req).sm.backlog = [req] ∧
        0 < (backlogged req).freeCount ∧ (backlogged req).faultLatched = false ∧ (backlogged req).sm.nextSeq ≠ 0 ∧
        (backlogged req).ins.isWaiting .storeManager = false ∧ (backlogged req).ins.heldBody = none ∧
        risingFrom 0 (backlogged req).sm.slots = true ∧ lookup (backlogged req).sm.slots 0 = none ∧
        (backlogged req).dir[1]? = some (newMeter (image 0xA2 0)) := by
  decide +kernel

theorem witness_composition_without_entry :
    (voted .read []).ackPending = false ∧ ({ voted .read [] with causes := cMeter } : Meter).causes ≠ 0 ∧
      routed.tamper.list = [] := by decide +kernel

theorem witness_record_source :
    RecordSource (newMeter (image 0xA2 0)) ⟨⟨0, 0⟩, 0, none⟩ ∧ RecordSource (voted .heard [cand 812 1]) ⟨⟨812, 0⟩, 0, none⟩ ∧
      RecordSource (voted .read []) ⟨⟨812, 0⟩, 55, none⟩ :=
  ⟨.inr ⟨rfl, .inr ⟨rfl, rfl⟩⟩, .inr ⟨rfl, .inl ⟨_, rfl, rfl⟩⟩, .inl rfl⟩

theorem witness_record_given :
    QWrite.word (recordAddr 0 5 0) 0 false ∈ [QWrite.word (recordAddr 0 5 0) 0 false] ∧
      stored.sm.scan = .done ∧ risingFrom 0 stored.sm.slots = true ∧ ∀ e ∈ stored.sm.slots, e.1 < 8192 := by
  decide +kernel

def ready (a : Byte) : State :=
  { polled a .queued with poll := { (polled a .queued).poll with ringPos := 31, tx := [], tag := 0xFFFF } }

theorem witness_frame :
    Awake (ready 1) ∧ (ready 1).ins.isWaiting .pollUnit = false ∧ (ready 1).inFlightCount < 8 ∧
      (ready 1).poll.list = [] ++ ⟨0, 1, some ⟨0, 0, 0⟩, .queued⟩ :: [] ∧
      ((ready 1).poll.ringPos + 0) % 32 = 31 ∧ (ready 1).txState 31 = .free ∧
      (ready 1).dir[0]? = some { newMeter (image 0xA1 0) with state := .polling, attempts := 1 } ∧
      (newMeter (image 0xA1 0)).learned = none ∧ (newMeter (image 0xA1 0)).img.stored = none := by decide +kernel

theorem witness_report :
    (BusFree (polled 1 (.inRing 3)) ∧ NotQueued (polled 1 (.inRing 3)) (txAddr 0 3 7) ∧
        canonical TxState.free (polled 1 (.inRing 3)).poll.tx = true) ∧
      (polled 1 (.inRing 3)).txState 3 = .awaiting ∧ (polled 1 (.inRing 3)).txState 4 = .free ∧
      inRingAt (polled 1 (.inRing 3)) 3 = some ⟨0, 1, some ⟨0, 0, 0⟩, .inRing 3⟩ ∧
      (1#8).toNat < (polled 1 (.inRing 3)).route.params.pollRetries.toNat + 1 ∧
      (polled 2 (.inRing 3)).route.params.pollRetries.toNat + 1 ≤ (2#8).toNat ∧
      inRingAt (polled 1 .queued) 3 = none ∧ (polled 1 .queued).txState 3 = .awaiting := by decide +kernel

theorem witness_withdrawn_frame :
    (queued (txAddr 0 3 7) 0xA001 (polled 1 (.inRing 3))).ins.entries.filter (fun x => decide (x.addr = txAddr 0 3 7)) =
        [⟨txAddr 0 3 7, 0xA001, .captureUnit, false⟩] ∧
      accessAddr 0x107C#32 = txAddr 0 3 7 ∧ BusFree (queued (txAddr 0 3 7) 0xA001 (polled 1 (.inRing 3))) := by
  decide +kernel

theorem witness_expiry_and_release :
    (∀ a ∈ [1#8, 2#8],
        Awake (polled a (.listening 0)) ∧ pollOf (polled a (.listening 0)) 0 = some ⟨0, a, some ⟨0, 0, 0⟩, .listening 0⟩ ∧
          (polled a (.listening 0)).flt.clockLost = false ∧ ((polled a (.listening 0)).clk.ms - 0).toNat < 2 ^ 31) ∧
      routed.route.params.pollRetries.toNat + 1 ≤ (2#8).toNat ∧
      (pollOf (polled 1 (.holdoff 0)) 0 = some ⟨0, 1, some ⟨0, 0, 0⟩, .holdoff 0⟩ ∧
        (polled 1 (.holdoff 0)).flt.clockLost = false) := by decide +kernel

theorem witness_fetch :
    (BusFree (batched .opened 0x7FFF) ∧ (batched .opened 0x7FFF).ins.newest (recordAddr 0 5 15) = none ∧
        (batched .opened 0x7FFF).slotState 5 = .inBatch ∧ 0x7FFF#16 ||| (1#16 <<< 15) = 0xFFFF#16) ∧
      (batched .opened 0).slotState 6 ≠ .inBatch ∧ (0#16 ||| (1#16 <<< 15)) ≠ 0xFFFF#16 := by decide +kernel

theorem witness_clock :
    Awake quiet ∧ quiet.flt.clockLost = false ∧ quiet.clk.divider ≠ 1023 ∧
      ({ quiet with clk := ⟨0, 1023⟩ } : State).clk.divider = 1023 ∧
      ({ quiet with flt := { quiet.flt with clockLost := true } } : State).flt.clockLost = true := by decide +kernel

def settledAwake : State := { quiet with ev := { quiet.ev with settled := true, lastSample := some false } }

theorem witness_sleep :
    (Awake quiet ∧ quiet.ev.settled = false ∧ quiet.flt.detector + 2 < 4096) ∧
      (settledAwake.ev.settled = true ∧ settledAwake.ev.asleep ≠ true ∧ settledAwake.ev.lastSample ≠ some true ∧
        settledAwake.ev.lastSample = some settledAwake.ev.asleep) ∧
      0 < ({ quiet with ev := { quiet.ev with pulse := ⟨false, 1⟩ } } : State).ev.pulse.left := by decide +kernel

theorem witness_occurrence :
    Awake quiet ∧ ({ quiet with ev := { quiet.ev with notify := 0x1FF } } : State).ev.notify &&& EventClass.fault.mask ≠ 0 ∧
      quiet.alert = false ∧
      ({ quiet with ev := { quiet.ev with marks := 0x100, notify := 0x100 } } : State).alert = true ∧
      ({ quiet with ev := { quiet.ev with marks := 0x100, notify := 0x0FF } } : State).alert = false ∧
      ({ quiet with path := { quiet.path with resetAsserted := true } } : State).path.resetAsserted = true := by
  decide +kernel

end Sys2Proof.Tests
end

section
/-! Host commands on an accepted header, and ROUTE_OPEN's checks (R25 to R29, R37). -/
namespace Sys2Proof.Machine

/-! ### What the commit leaves unchanged -/

@[simp] theorem begun_route (c : HostCommand) (h : CmdHeader) (s : State) : (begun c h s).route = s.route := rfl
@[simp] theorem begun_faultLatched (c : HostCommand) (h : CmdHeader) (s : State) :
    (begun c h s).faultLatched = s.faultLatched := rfl

/-- The row of an accepted command hands its parameter copy to the owning unit (R29). -/
theorem exec_hostInstr_accepted {c : HostCommand} {h : CmdHeader} {s : State} (ha : Accepted c h s) :
    exec (hostInstr c h) s = .next (finish s (runCommand c (commitParams c h s) (begun c h s))) :=
  (exec_hostInstr c h s).trans (commitOf_accepted c h s ha)

/-! ### ROUTE_OPEN tests the route state first and the latched faults second (R37) -/

theorem routeOpenWork_wrongState {s : State} (hr : s.route.state ≠ .noRoute) :
    routeOpenWork s = respond stWrongState [] s := by
  unfold routeOpenWork
  cases hst : s.route.state with
  | noRoute => exact absurd hst hr
  | loading => rfl
  | opened => rfl
  | closing => rfl

theorem routeOpenWork_faulted {s : State} (hr : s.route.state = .noRoute) (hf : s.faultLatched = true) :
    routeOpenWork s = respond stFaulted [] s := by
  simp only [routeOpenWork, hr, hf, if_true]

theorem routeOpenWork_begins {s : State} (hr : s.route.state = .noRoute) (hf : s.faultLatched = false) :
    routeOpenWork s = { s with route := { s.route with load := some .number } } := by
  simp only [routeOpenWork, hr, hf, Bool.false_eq_true, if_false]

/-- Settles O31: the row runs ROUTE_OPEN on the state the commit leaves, whose route and fault latches are those before the
commit, so the two tests of R37 are decided there. -/
theorem routeOpenBeginsTheLoad : Obligations.RouteOpenBeginsTheLoad := by
  intro h s ha
  have hrun : exec (.routeOpen h) s = .next (finish s (routeOpenWork (begun .routeOpen h s))) :=
    exec_hostInstr_accepted ha
  rw [hrun]
  refine ⟨fun hr => ?_, fun hr hf => ?_, fun hr hf => ?_⟩
  · rw [routeOpenWork_wrongState (by rwa [begun_route])]
    rfl
  · rw [routeOpenWork_faulted (by rwa [begun_route]) (by rwa [begun_faultLatched])]
    rfl
  · rw [routeOpenWork_begins (by rwa [begun_route]) (by rwa [begun_faultLatched]), begun_route]

end Sys2Proof.Machine
end

section
/-! THRESHOLD_STAGE and THRESHOLD_NUDGE on an accepted header (R89 to R91). -/
namespace Sys2Proof.Machine

/-! ### Numbers in 16-bit fields and in response words (R89, R198) -/

theorem floorInRange_iff (f : Int) : floorInRange f = true ↔ -140 ≤ f ∧ f ≤ -20 := by
  simp only [floorInRange, Bool.and_eq_true, decide_eq_true_eq]

theorem nearest_mem {lo hi : Int} (h : lo ≤ hi) (x : Int) : lo ≤ nearest lo hi x ∧ nearest lo hi x ≤ hi := by
  unfold nearest
  omega

theorem clamp_eq_nearest {lo hi : Int} (h : lo ≤ hi) (x : Int) : clamp lo hi x = nearest lo hi x := by
  unfold clamp nearest
  split
  · omega
  · split <;> omega

theorem flag_bit_zero (b : Bool) : flag b 0 = if b then 1 else 0 := by cases b <;> rfl

/-- A signed 16-bit number sign-extends to the response word of the same number. -/
theorem floorWord_ofInt {v : Int} (hlo : -140 ≤ v) (hhi : v ≤ -20) : floorWord (BitVec.ofInt 16 v) = BitVec.ofInt 32 v := by
  apply BitVec.eq_of_toInt_eq
  rw [floorWord, BitVec.toInt_signExtend_of_le (by decide), BitVec.toInt_ofInt, BitVec.toInt_ofInt,
    Int.bmod_eq_of_le (by omega) (by omega), Int.bmod_eq_of_le (by omega) (by omega)]

/-- An unsigned 16-bit number at bit 0 is the response word of the same number. -/
theorem place_ofInt_half {v : Int} (hlo : 0 ≤ v) (hhi : v ≤ 65535) :
    place (BitVec.ofInt 16 v : Half) 0 = BitVec.ofInt 32 v := by
  lift v to Nat using hlo
  apply BitVec.eq_of_toNat_eq
  simp only [place, BitVec.ofInt_natCast, BitVec.shiftLeft_zero, BitVec.toNat_setWidth, BitVec.toNat_ofNat]
  omega

theorem setWidth_eq_ofInt (x : Word) : x.setWidth 16 = BitVec.ofInt 16 x.toInt := by
  rw [BitVec.toInt_eq_toNat_bmod]
  apply BitVec.eq_of_toInt_eq
  rw [BitVec.toInt_setWidth, BitVec.toInt_ofInt, Int.bmod_bmod_of_dvd (by decide)]

theorem floorWord_setWidth {x : Word} (hlo : -140 ≤ x.toInt) (hhi : x.toInt ≤ -20) : floorWord (x.setWidth 16) = x := by
  rw [setWidth_eq_ofInt, floorWord_ofInt hlo hhi, BitVec.ofInt_toInt]

theorem place_setWidth_half {x : Word} (h : x.toNat ≤ 65535) : place (x.setWidth 16) 0 = x := by
  apply BitVec.eq_of_toNat_eq
  simp only [place, BitVec.shiftLeft_zero, BitVec.toNat_setWidth]
  omega

/-- R90: the two tests of the parameters together. -/
theorem stage_outOfRange_iff (f : Int) (d : Nat) :
    (!floorInRange f || decide (65535 < d)) = true ↔ f < -140 ∨ -20 < f ∨ 65535 < d := by
  rw [Bool.or_eq_true, Bool.not_eq_true', ← Bool.not_eq_true, floorInRange_iff, decide_eq_true_eq]
  omega

/-! ### THRESHOLD_STAGE tests the route state first and the ranges second (R90) -/

theorem exec_thresholdStage_accepted {h : CmdHeader} {s : State} (ha : Accepted .thresholdStage h s) :
    exec (.thresholdStage h) s =
      .next (finish s (thresholdStageWork (hostParam s 1) (hostParam s 2) (hostParam s 3) (hostParam s 4)
        (begun .thresholdStage h s))) := by
  have hrun := exec_hostInstr_accepted ha
  simp only [runCommand, param_commit, Nat.reduceLT] at hrun
  exact hrun

theorem thresholdStageWork_wrongState {floor excess low drift : Word} {s : State} (hr : s.route.state ≠ .opened) :
    thresholdStageWork floor excess low drift s = respond stWrongState [] s :=
  if_pos hr

theorem thresholdStageWork_badParam {floor excess low drift : Word} {s : State} (hr : s.route.state = .opened)
    (hp : floor.toInt < -140 ∨ -20 < floor.toInt ∨ 65535 < drift.toNat) :
    thresholdStageWork floor excess low drift s = respond stBadParam [] s := by
  rw [thresholdStageWork, if_neg (not_not_intro hr), if_pos ((stage_outOfRange_iff _ _).2 hp)]

theorem thresholdStageWork_stages {floor excess low drift : Word} {s : State} (hr : s.route.state = .opened)
    (hlo : -140 ≤ floor.toInt) (hhi : floor.toInt ≤ -20) (hd : drift.toNat ≤ 65535) :
    thresholdStageWork floor excess low drift s =
      respond stOk [floor, excess, low, drift]
        { s with route := { s.route with staged := ⟨floor.setWidth 16, excess, low, drift.setWidth 16⟩ } } := by
  rw [thresholdStageWork, if_neg (not_not_intro hr), if_neg (by rw [stage_outOfRange_iff]; omega)]
  simp only [floorWord_setWidth hlo hhi, place_setWidth_half hd]

/-- Settles O27: the commit leaves the route as it is, so R90's tests and the staged set are those before the commit, and a
parameter within its range comes back from its staged field unchanged. -/
theorem thresholdStageReplacesTheStagedSet : Obligations.ThresholdStageReplacesTheStagedSet := by
  intro h s ha
  rw [exec_thresholdStage_accepted ha]
  refine ⟨fun hr => ?_, fun hr hp => ?_, fun hr hlo hhi hd => ?_⟩
  · rw [thresholdStageWork_wrongState (by rwa [begun_route])]
    rfl
  · rw [thresholdStageWork_badParam (by rwa [begun_route]) hp]
    rfl
  · rw [thresholdStageWork_stages (by rwa [begun_route]) hlo hhi hd, begun_route]
    rfl

/-! ### THRESHOLD_NUDGE: the moved field of each selector, and the checks before it (R91) -/

theorem nudged_floor (th : Thresholds) (step : Int) {sum v : Int} (hsum : sum = th.floor.toInt + step)
    (hv : v = nearest (-140) (-20) sum) :
    nudged th 0 step = ({ th with floor := BitVec.ofInt 16 v }, BitVec.ofInt 32 v, decide (v ≠ sum)) := by
  have hc : clamp (-140) (-20) sum = v := (clamp_eq_nearest (by decide) sum).trans hv.symm
  obtain ⟨hlo, hhi⟩ : -140 ≤ v ∧ v ≤ -20 := hv ▸ nearest_mem (by decide) sum
  simp [nudged, ← hsum, hc, floorWord_ofInt hlo hhi]

theorem nudged_excess (th : Thresholds) (step : Int) {sum v : Int} (hsum : sum = th.excess.toNat + step)
    (hv : v = nearest 0 (2 ^ 32 - 1) sum) :
    nudged th 1 step = ({ th with excess := BitVec.ofInt 32 v }, BitVec.ofInt 32 v, decide (v ≠ sum)) := by
  have hc : clamp 0 0xFFFFFFFF sum = v := (clamp_eq_nearest (by decide) sum).trans hv.symm
  simp [nudged, ← hsum, hc]

theorem nudged_low (th : Thresholds) (step : Int) {sum v : Int} (hsum : sum = th.low.toNat + step)
    (hv : v = nearest 0 (2 ^ 32 - 1) sum) :
    nudged th 2 step = ({ th with low := BitVec.ofInt 32 v }, BitVec.ofInt 32 v, decide (v ≠ sum)) := by
  have hc : clamp 0 0xFFFFFFFF sum = v := (clamp_eq_nearest (by decide) sum).trans hv.symm
  simp [nudged, ← hsum, hc]

theorem nudged_drift (th : Thresholds) (step : Int) {sum v : Int} (hsum : sum = th.drift.toNat + step)
    (hv : v = nearest 0 65535 sum) :
    nudged th 3 step = ({ th with drift := BitVec.ofInt 16 v }, BitVec.ofInt 32 v, decide (v ≠ sum)) := by
  have hc : clamp 0 65535 sum = v := (clamp_eq_nearest (by decide) sum).trans hv.symm
  obtain ⟨hlo, hhi⟩ : 0 ≤ v ∧ v ≤ 65535 := hv ▸ nearest_mem (by decide) sum
  simp [nudged, ← hsum, hc, place_ofInt_half hlo hhi]

theorem exec_thresholdNudge_accepted {h : CmdHeader} {s : State} (ha : Accepted .thresholdNudge h s) :
    exec (.thresholdNudge h) s =
      .next (finish s (thresholdNudgeWork (hostParam s 1) (hostParam s 2) (begun .thresholdNudge h s))) := by
  have hrun := exec_hostInstr_accepted ha
  simp only [runCommand, param_commit, Nat.reduceLT] at hrun
  exact hrun

theorem thresholdNudgeWork_wrongState {sel step : Word} {s : State} (hr : s.route.state ≠ .opened) :
    thresholdNudgeWork sel step s = respond stWrongState [] s :=
  if_pos hr

theorem thresholdNudgeWork_badParam {sel step : Word} {s : State} (hr : s.route.state = .opened) (hp : 3 < sel.toNat) :
    thresholdNudgeWork sel step s = respond stBadParam [] s := by
  rw [thresholdNudgeWork, if_neg (not_not_intro hr), if_pos hp]

/-- Past the checks, the staged set becomes what `nudged` makes of it, and the response tells the new value `v` and whether it
differs from the sum. -/
theorem thresholdNudgeWork_moves {sel step : Word} {s : State} {th : Thresholds} {v sum : Int}
    (hr : s.route.state = .opened) (hsel : sel.toNat ≤ 3)
    (hn : nudged s.route.staged sel.toNat step.toInt = (th, BitVec.ofInt 32 v, decide (v ≠ sum))) :
    thresholdNudgeWork sel step s =
      respond stOk [BitVec.ofInt 32 v, if v = sum then 0 else 1] { s with route := { s.route with staged := th } } := by
  rw [thresholdNudgeWork, if_neg (not_not_intro hr), if_neg (by omega), hn]
  simp [flag_bit_zero]

/-- The accepted row with selector `sel`, given what `nudged` makes of the staged set before the commit. -/
theorem exec_thresholdNudge_moves {h : CmdHeader} {s : State} (ha : Accepted .thresholdNudge h s) {sel : Word}
    {th : Thresholds} {v sum : Int} (hr : s.route.state = .opened) (hsel : hostParam s 1 = sel) (hle : sel.toNat ≤ 3)
    (hn : nudged s.route.staged sel.toNat (hostParam s 2).toInt = (th, BitVec.ofInt 32 v, decide (v ≠ sum))) :
    exec (.thresholdNudge h) s =
      .next (finish s
        (respond 0x00#8 [BitVec.ofInt 32 v, if v = sum then 0 else 1]
          { begun .thresholdNudge h s with route := { s.route with staged := th } })) := by
  rw [exec_thresholdNudge_accepted ha, hsel, thresholdNudgeWork_moves (by rwa [begun_route]) hle (by rwa [begun_route]),
    begun_route]
  rfl

/-- Settles O28: the commit leaves the route as it is, so R91's tests and the field to move are those before the commit; each
selector has its own lemma about `nudged`. -/
theorem thresholdNudgeMovesOneField : Obligations.ThresholdNudgeMovesOneField := by
  intro h s ha
  refine ⟨fun hr => ?_, fun hr hp => ?_, fun _ _ hr hsel hsum hv => ?_, fun _ _ hr hsel hsum hv => ?_,
    fun _ _ hr hsel hsum hv => ?_, fun _ _ hr hsel hsum hv => ?_⟩
  · rw [exec_thresholdNudge_accepted ha, thresholdNudgeWork_wrongState (by rwa [begun_route])]
    rfl
  · rw [exec_thresholdNudge_accepted ha, thresholdNudgeWork_badParam (by rwa [begun_route]) hp]
    rfl
  · exact exec_thresholdNudge_moves ha hr hsel (by decide) (nudged_floor _ _ hsum hv)
  · exact exec_thresholdNudge_moves ha hr hsel (by decide) (nudged_excess _ _ hsum hv)
  · exact exec_thresholdNudge_moves ha hr hsel (by decide) (nudged_low _ _ hsum hv)
  · exact exec_thresholdNudge_moves ha hr hsel (by decide) (nudged_drift _ _ hsum hv)

end Sys2Proof.Machine
end

section
/-! EVENT_ENABLE on an accepted header (R188). -/
namespace Sys2Proof.Machine

@[simp] theorem begun_ev (c : HostCommand) (h : CmdHeader) (s : State) : (begun c h s).ev = s.ev := rfl

/-- A field placed at bit 0 is its zero extension. -/
theorem place_zero {n : Nat} (x : BitVec n) : place x 0 = x.setWidth 32 := BitVec.shiftLeft_zero _

/-- R188: the test of the two masks together. -/
theorem masks_tooWide_iff (notify wake : Word) :
    (maskTooWide notify || maskTooWide wake) = true ↔ bits notify 9 23 ≠ 0 ∨ bits wake 9 23 ≠ 0 := by
  simp only [maskTooWide, Bool.or_eq_true, bne_iff_ne]

theorem exec_eventEnable_accepted {h : CmdHeader} {s : State} (ha : Accepted .eventEnable h s) :
    exec (.eventEnable h) s =
      .next (finish s (eventEnableWork (hostParam s 1) (hostParam s 2) (begun .eventEnable h s))) := by
  have hrun := exec_hostInstr_accepted ha
  simp only [runCommand, param_commit, Nat.reduceLT] at hrun
  exact hrun

theorem eventEnableWork_badParam {notify wake : Word} {s : State} (hw : bits notify 9 23 ≠ 0 ∨ bits wake 9 23 ≠ 0) :
    eventEnableWork notify wake s = respond stBadParam [] s :=
  if_pos ((masks_tooWide_iff notify wake).2 hw)

/-- The response tells the new masks from the parameters, and the pending mask and the old masks from the state before. -/
theorem eventEnableWork_sets {notify wake : Word} {s : State} (hn : bits notify 9 23 = 0) (hw : bits wake 9 23 = 0) :
    eventEnableWork notify wake s =
      respond stOk [notify, wake, s.ev.marks.setWidth 32, s.ev.notify.setWidth 32, s.ev.wake.setWidth 32]
        { s with ev := { s.ev with notify := bits notify 0 9, wake := bits wake 0 9 } } := by
  have hfits : ¬(maskTooWide notify || maskTooWide wake) = true := fun hwide =>
    ((masks_tooWide_iff notify wake).1 hwide).elim (· hn) (· hw)
  rw [eventEnableWork, if_neg hfits]
  simp only [place_zero]

/-- Settles O24: the commit leaves the event unit as it is, so the pending mask and the masks told as those before are those
before the commit; the two clauses are the two outcomes of R188's test of the parameters. -/
theorem eventEnableSetsBothMasks : Obligations.EventEnableSetsBothMasks := by
  intro h s ha
  rw [exec_eventEnable_accepted ha]
  refine ⟨fun hwide => ?_, fun hn hw => ?_⟩
  · rw [eventEnableWork_badParam hwide]
    rfl
  · rw [eventEnableWork_sets hn hw, begun_ev]
    rfl

end Sys2Proof.Machine
end

section
/-! What an operation leaves unchanged, part by part of the state: one frame lemma per operation of the model. -/
namespace Sys2Proof.Machine

/-- The parts of the state that frames and invariants speak of.  `queue` is what the Insert Queue holds (entries, throttle
mark, waiting producers) and `given` the rest of `ins`; `meterStates` are the states within `dir`; `pulse` are the cycles left of
a WAKE pulse. -/
inductive Part where
  | pending | store | shadow | bus | queue | given | cmd | clk | capSlots | capLists | capCounts | dir | meterStates | load
  | route | pollList | pollTx | pollPos | pollCounts | tamperList | tamperCounts | slots | scan | rosters | requests | up
  | pulse | ev | detector | flt | cutMarks
deriving DecidableEq

/-- Part `p` is the same in `t` as in `s`. -/
def Same (p : Part) (s t : State) : Prop :=
  match p with
  | .pending => t.pending = s.pending
  | .store => t.store = s.store
  | .shadow => t.path.shadow = s.path.shadow
  | .bus =>
    t.path.resetAsserted = s.path.resetAsserted ∧ t.path.areaSel = s.path.areaSel ∧ t.path.snapshot = s.path.snapshot ∧
      t.path.lastGrant = s.path.lastGrant ∧ t.path.held = s.path.held ∧ t.path.answer = s.path.answer ∧
      t.path.blockedCount = s.path.blockedCount ∧ t.path.blockedAddr = s.path.blockedAddr ∧
      t.path.blockedReason = s.path.blockedReason
  | .queue => t.ins.entries = s.ins.entries ∧ t.ins.throttle = s.ins.throttle ∧ t.ins.waits = s.ins.waits
  | .given =>
    t.ins.resp0 = s.ins.resp0 ∧ t.ins.laterLocks = s.ins.laterLocks ∧ t.ins.ackFifo = s.ins.ackFifo ∧
      t.ins.heldBody = s.ins.heldBody ∧ t.ins.outbox = s.ins.outbox ∧ t.ins.ties = s.ins.ties
  | .cmd => t.cmd = s.cmd
  | .clk => t.clk = s.clk
  | .capSlots => t.cap.slots = s.cap.slots
  | .capLists => t.cap.judgeQ = s.cap.judgeQ ∧ t.cap.deferred = s.cap.deferred
  | .capCounts =>
    t.cap.fix = s.cap.fix ∧ t.cap.overruns = s.cap.overruns ∧ t.cap.unknownMeters = s.cap.unknownMeters ∧
      t.cap.unjudged = s.cap.unjudged ∧ t.cap.routeJudged = s.cap.routeJudged ∧
      t.cap.routeUnknown = s.cap.routeUnknown ∧ t.cap.routeOverruns = s.cap.routeOverruns
  | .dir => t.dir = s.dir
  | .meterStates => t.dir.map Meter.state = s.dir.map Meter.state
  | .load => t.route.state = s.route.state ∧ t.route.load = s.route.load
  | .route =>
    t.route.number = s.route.number ∧ t.route.params = s.route.params ∧ t.route.segs = s.route.segs ∧
      t.route.activeSeg = s.route.activeSeg ∧ t.route.active = s.route.active ∧ t.route.staged = s.route.staged ∧
      t.route.missed = s.route.missed
  | .pollList => t.poll.list = s.poll.list
  | .pollTx => t.poll.tx = s.poll.tx
  | .pollPos => t.poll.ringPos = s.poll.ringPos
  | .pollCounts => t.poll.tag = s.poll.tag ∧ t.poll.sent = s.poll.sent ∧ t.poll.answered = s.poll.answered
  | .tamperList => t.tamper.list = s.tamper.list
  | .tamperCounts => t.tamper.overflow = s.tamper.overflow ∧ t.tamper.records = s.tamper.records
  | .slots => t.sm.slots = s.sm.slots
  | .scan => t.sm.scan = s.sm.scan ∧ t.sm.findings = s.sm.findings
  | .rosters => t.sm.roster = s.sm.roster ∧ t.sm.workRoster = s.sm.workRoster
  | .requests => t.sm.backlog = s.sm.backlog ∧ t.sm.nextSeq = s.sm.nextSeq ∧ t.sm.highest = s.sm.highest
  | .up => t.up = s.up
  | .pulse => t.ev.pulse.left = s.ev.pulse.left
  | .ev =>
    t.ev.marks = s.ev.marks ∧ t.ev.notify = s.ev.notify ∧ t.ev.wake = s.ev.wake ∧ t.ev.asleep = s.ev.asleep ∧
      t.ev.settled = s.ev.settled ∧ t.ev.lastSample = s.ev.lastSample ∧ t.ev.sleepPin = s.ev.sleepPin ∧
      t.ev.pulse.requested = s.ev.pulse.requested
  | .detector => t.flt.detector = s.flt.detector
  | .flt => t.flt.storeError = s.flt.storeError ∧ t.flt.clockLost = s.flt.clockLost ∧ t.flt.errorAddr = s.flt.errorAddr
  | .cutMarks => t.cutMarks = s.cutMarks

/-- From `s` to `t` only the parts `ps` may have changed. -/
def Frame (ps : List Part) (s t : State) : Prop := ∀ p, p ∉ ps → Same p s t

theorem Same.refl (p : Part) (s : State) : Same p s s := by cases p <;> simp [Same]

theorem Same.trans {p : Part} {s t u : State} (h : Same p s t) (h' : Same p t u) : Same p s u := by
  cases p <;> simp_all [Same]

theorem Frame.refl (ps : List Part) (s : State) : Frame ps s s := fun p _ => Same.refl p s

theorem Frame.trans {ps : List Part} {s t u : State} (h : Frame ps s t) (h' : Frame ps t u) : Frame ps s u :=
  fun p hp => (h p hp).trans (h' p hp)

theorem Frame.mono {ps qs : List Part} {s t : State} (h : Frame ps s t) (hsub : ∀ p ∈ ps, p ∈ qs) :
    Frame qs s t :=
  fun p hp => h p fun hps => hp (hsub p hps)

/-- Two operations after each other change what either changes. -/
theorem Frame.andThen {ps qs rs : List Part} {s t u : State} (h : Frame ps s t) (h' : Frame qs t u)
    (hp : ∀ p ∈ ps, p ∈ rs) (hq : ∀ p ∈ qs, p ∈ rs) : Frame rs s u :=
  (h.mono hp).trans (h'.mono hq)

theorem Frame.seq {ps qs : List Part} {s t u : State} (h : Frame ps s t) (h' : Frame qs t u) : Frame (ps ++ qs) s u :=
  fun p hp => (h p fun hps => hp (List.mem_append_left _ hps)).trans (h' p fun hqs => hp (List.mem_append_right _ hqs))

/-- A frame, part by part: what `simp` shows of a record update. -/
theorem frame_iff {ps : List Part} {s t : State} :
    Frame ps s t ↔
      ((((Part.pending ∈ ps ∨ Same .pending s t) ∧ (Part.store ∈ ps ∨ Same .store s t) ∧
        (Part.shadow ∈ ps ∨ Same .shadow s t) ∧ (Part.bus ∈ ps ∨ Same .bus s t)) ∧
      ((Part.queue ∈ ps ∨ Same .queue s t) ∧ (Part.given ∈ ps ∨ Same .given s t) ∧ (Part.cmd ∈ ps ∨ Same .cmd s t) ∧
        (Part.clk ∈ ps ∨ Same .clk s t))) ∧
      (((Part.capSlots ∈ ps ∨ Same .capSlots s t) ∧ (Part.capLists ∈ ps ∨ Same .capLists s t) ∧
        (Part.capCounts ∈ ps ∨ Same .capCounts s t)) ∧ ((Part.dir ∈ ps ∨ Same .dir s t) ∧
        (Part.meterStates ∈ ps ∨ Same .meterStates s t) ∧ (Part.load ∈ ps ∨ Same .load s t) ∧
        (Part.route ∈ ps ∨ Same .route s t)))) ∧
      (((Part.pollList ∈ ps ∨ Same .pollList s t) ∧ (Part.pollTx ∈ ps ∨ Same .pollTx s t) ∧
        (Part.pollPos ∈ ps ∨ Same .pollPos s t) ∧ (Part.pollCounts ∈ ps ∨ Same .pollCounts s t)) ∧
      ((Part.tamperList ∈ ps ∨ Same .tamperList s t) ∧ (Part.tamperCounts ∈ ps ∨ Same .tamperCounts s t) ∧
        (Part.slots ∈ ps ∨ Same .slots s t) ∧ (Part.scan ∈ ps ∨ Same .scan s t) ∧
        (Part.rosters ∈ ps ∨ Same .rosters s t) ∧ (Part.requests ∈ ps ∨ Same .requests s t)) ∧
      ((Part.up ∈ ps ∨ Same .up s t) ∧ (Part.pulse ∈ ps ∨ Same .pulse s t) ∧ (Part.ev ∈ ps ∨ Same .ev s t) ∧
        (Part.detector ∈ ps ∨ Same .detector s t) ∧ (Part.flt ∈ ps ∨ Same .flt s t) ∧
        (Part.cutMarks ∈ ps ∨ Same .cutMarks s t))) := by
  constructor
  · intro h
    have hall : ∀ p : Part, p ∈ ps ∨ Same p s t := fun p => (em (p ∈ ps)).imp id (h p)
    exact ⟨⟨⟨⟨hall _, hall _, hall _, hall _⟩, hall _, hall _, hall _, hall _⟩,
      ⟨hall _, hall _, hall _⟩, hall _, hall _, hall _, hall _⟩,
      ⟨hall _, hall _, hall _, hall _⟩, ⟨hall _, hall _, hall _, hall _, hall _, hall _⟩,
      hall _, hall _, hall _, hall _, hall _, hall _⟩
  · rintro ⟨⟨⟨⟨h1, h2, h3, h4⟩, h5, h6, h7, h8⟩, ⟨h9, h10, h11⟩, h12, h13, h14, h15⟩, ⟨h16, h17, h18, h19⟩,
      ⟨h20, h21, h22, h23, h24, h25⟩, h26, h27, h28, h29, h30, h31⟩ p hp
    cases p <;> exact Or.resolve_left ‹_› hp

/-! ### Updates of one part, to be met as the last of several operations -/

theorem dir_frame (d : List Meter) (s : State) : Frame [.dir, .meterStates] s { s with dir := d } := by
  simp [frame_iff, Same]

theorem given_frame (r : Bool) (l : List Nat) (a : List QWrite) (h : Option HeldBody) (o : List (Producer × QWrite))
    (ti : List Nat) (s : State) :
    Frame [.given] s
      { s with
        ins := { s.ins with resp0 := r, laterLocks := l, ackFifo := a, heldBody := h, outbox := o, ties := ti } } := by
  simp [frame_iff, Same]

theorem tamper_frame (m : Tamper) (s : State) : Frame [.tamperList, .tamperCounts] s { s with tamper := m } := by
  simp [frame_iff, Same]

theorem backlog_frame (b : List Request) (s : State) :
    Frame [.requests] s { s with sm := { s.sm with backlog := b } } := by simp [frame_iff, Same]

theorem answered_frame (c : Command) (a : List QWrite) (s : State) :
    Frame [.cmd, .given] s { s with cmd := c, ins := { s.ins with ackFifo := a } } := by simp [frame_iff, Same]

/-! ### Shared operations -/

theorem finish_frame (s t : State) : Frame [.queue, .given] t (finish s t) := by simp [frame_iff, Same]

theorem raise_frame (c : EventClass) (s : State) : Frame [.ev] s (raise c s) := by simp [frame_iff, Same, Events.occur]

theorem give_frame (p : Producer) (q : QWrite) (s : State) : Frame [.given] s (give p q s) := by simp [frame_iff, Same]

theorem giveData_frame (p : Producer) (a : Nat) (w : Word) (s : State) : Frame [.given] s (giveData p a w s) :=
  give_frame p _ s

theorem respondBehind_frame (p : Producer) (r : Response) (s : State) :
    Frame [.cmd, .given] s (respondBehind p r s) := by simp [frame_iff, Same, respondBehind]

theorem respond_frame (st : Byte) (r : List Word) (s : State) : Frame [.cmd, .given] s (respond st r s) :=
  respondBehind_frame _ _ s

theorem modMeter_frame {i : Nat} {f : Meter → Meter} (s : State)
    (hf : ∀ m, (f m).state = m.state) : Frame [.dir] s (modMeter i f s) := by
  have h : (s.dir.modify i f).map Meter.state = s.dir.map Meter.state := by
    apply List.ext_getElem?
    intro j
    rw [List.getElem?_map, List.getElem?_map, List.getElem?_modify]
    split <;> cases s.dir[j]? <;> simp [hf]
  simp [frame_iff, Same, modMeter, h]

theorem moveSegment_frame (g : Nat) (old new : MeterState) (s : State) :
    Frame [.route, .ev] s (moveSegment g old new s) := by
  rw [moveSegment_eq]
  simp [frame_iff, Same, movedEvents]
  split <;> rfl

theorem setMeterState_frame (i : Nat) (new : MeterState) (s : State) :
    Frame [.dir, .meterStates, .route, .ev] s (setMeterState i new s) := by
  unfold setMeterState
  split
  · exact .refl _ _
  · exact (moveSegment_frame _ _ _ s).andThen (dir_frame _ _) (by decide) (by decide)

theorem modRow_frame (k : Nat) (f : RecRow → RecRow) (s : State) : Frame [.slots] s (modRow k f s) := by
  simp [frame_iff, Same]

theorem latchStoreError_frame (a : Nat) (s : State) : Frame [.flt, .ev] s (latchStoreError a s) := by
  simp [frame_iff, Same, latchStoreError, Events.occur]

@[simp] theorem sample_left (e : Events) : e.sample.pulse.left = e.pulse.left := by
  unfold Events.sample Events.sleepLevel
  dsimp only
  split
  · split
    · rfl
    · split <;> rfl
  · rfl

theorem completeRead_frame (d : Disturb) (s : State) : Frame [.bus, .ev, .flt] s (completeRead d s) := by
  unfold completeRead
  split
  · exact .refl _ _
  · split
    · exact .refl _ _
    · dsimp only
      split
      · exact Frame.andThen (ps := [.bus, .ev]) (by simp [frame_iff, Same]) (latchStoreError_frame _ _) (by decide) (by decide)
      · simp [frame_iff, Same]

/-! ### The Tamper Unit -/

theorem createTamper_frame (e : TamperEntry) (s : State) :
    Frame [.tamperList, .tamperCounts, .ev] s (createTamper e s) := by
  unfold createTamper
  exact Frame.andThen (ps := [.tamperList, .tamperCounts]) (by simp [frame_iff, Same]) (raise_frame _ _) (by decide) (by decide)

theorem mergeTamper_frame (meter : Word) (causes : Byte) (s : State) :
    Frame [.tamperList] s (mergeTamper meter causes s) := by simp [frame_iff, Same, mergeTamper]

theorem reLock_frame (m : Meter) (s : State) : Frame [.slots, .given] s (reLock m s) := by
  unfold reLock
  split
  · exact .refl _ _
  · split
    · exact .refl _ _
    · split
      · dsimp only
        split
        · exact (modRow_frame _ _ s).andThen (given_frame _ _ _ _ _ _ _) (by decide) (by decide)
        · exact (modRow_frame _ _ s).andThen (giveData_frame _ _ _ _) (by decide) (by decide)
      · exact .refl _ _

theorem lateCauses_frame (i : Nat) (m : Meter) (new : Byte) (s : State) :
    Frame [.dir, .requests, .tamperList, .tamperCounts, .ev, .slots, .given] s (lateCauses i m new s) := by
  unfold lateCauses
  split
  · exact (mergeTamper_frame _ _ s).mono (by decide)
  · exact ((((modMeter_frame s (by intro _; rfl)).seq (backlog_frame _ _)).seq (createTamper_frame _ _)).seq (reLock_frame m _)).mono (by decide)

theorem addCauses_frame (i : Nat) (set : Byte) (s : State) :
    Frame [.dir, .requests, .tamperList, .tamperCounts, .ev, .slots, .given] s (addCauses i set s) := by
  unfold addCauses
  split
  · exact .refl _ _
  · dsimp only
    split
    · exact .refl _ _
    · split
      · exact ((modMeter_frame s (by intro _; rfl)).seq (lateCauses_frame _ _ _ _)).mono (by decide)
      · split
        · exact ((modMeter_frame s (by intro _; rfl)).seq (createTamper_frame _ _)).mono (by decide)
        · exact ((modMeter_frame s (by intro _; rfl)).seq (mergeTamper_frame _ _ _)).mono (by decide)

theorem tamperAtComposition_frame (i k : Nat) (note : Bool) (s : State) :
    Frame [.dir, .slots, .tamperList, .tamperCounts] s (tamperAtComposition i k note s) := by
  unfold tamperAtComposition
  split
  · exact .refl _ _
  · dsimp only
    exact Frame.mono (((modMeter_frame s (by intro _; rfl)).seq (modRow_frame k _ _)).seq (tamper_frame _ _)) (by decide)

theorem ackEntry_frame (s : State) (e : TamperEntry) : Frame [.slots, .given, .dir] s (ackEntry s e) := by
  unfold ackEntry
  split
  · exact (modRow_frame _ _ s).andThen (given_frame _ _ _ _ _ _ _) (by decide) (by decide)
  · split
    · exact (modMeter_frame s (by intro _; rfl)).mono (by decide)
    · exact .refl _ _

/-- A fold of an operation changes what the operation changes. -/
theorem Frame.foldl {α : Type} {ps : List Part} {f : State → α → State} (hf : ∀ s a, Frame ps s (f s a)) (l : List α)
    (s : State) : Frame ps s (l.foldl f s) := by
  induction l generalizing s with
  | nil => exact .refl _ _
  | cons a l ih => exact (hf s a).trans (ih _)

theorem tamperAckWork_frame (k : Word) (s : State) :
    Frame [.tamperList, .slots, .given, .dir, .cmd] s (tamperAckWork k s) := by
  unfold tamperAckWork
  dsimp only
  split
  · exact (respond_frame _ _ s).mono (by decide)
  · have h1 : Frame [.tamperList] s
        { s with tamper := { s.tamper with list := s.tamper.list.drop k.toNat } } := by simp [frame_iff, Same]
    exact ((h1.seq (Frame.foldl ackEntry_frame (s.tamper.list.take k.toNat) _)).seq (answered_frame _ _ _)).mono (by decide)

end Sys2Proof.Machine
end

section
/-! Frames of the blocks: records, polls, the Capture Unit, the load, the commands and the accesses. -/
namespace Sys2Proof.Machine

/-! ### Records -/

theorem takeSlot_frame (req : Request) (rest : List Request) (k : Nat) (s : State) :
    Frame [.requests, .slots, .rosters] s (takeSlot req rest k s) := by simp [frame_iff, Same, takeSlot]

theorem markComposed_frame (req : Request) (k : Nat) (seq : Word) (s : State) :
    Frame [.dir, .slots, .tamperList, .tamperCounts] s (markComposed req k seq s) := by
  cases req with
  | reading i => exact ((modMeter_frame s (by intro _; rfl)).seq (tamperAtComposition_frame i k false _)).mono (by decide)
  | miss i r => exact ((modMeter_frame s (by intro _; rfl)).seq (tamperAtComposition_frame i k false _)).mono (by decide)
  | note i => exact tamperAtComposition_frame i k true s
  | summary => exact .refl _ _

theorem compose_frame (s : State) :
    Frame [.requests, .slots, .rosters, .dir, .tamperList, .tamperCounts, .given, .ev] s (compose s) := by
  unfold compose
  split
  · exact .refl _ _
  · dsimp only
    split
    · exact ((((takeSlot_frame _ _ _ s).seq (markComposed_frame _ _ _ _)).seq (given_frame _ _ _ _ _ _ _)).seq
        (raise_frame _ _)).mono (by decide)
    · exact (((takeSlot_frame _ _ _ s).seq (markComposed_frame _ _ _ _)).seq (given_frame _ _ _ _ _ _ _)).mono (by decide)

theorem completeRoute_frame (s : State) :
    Frame [.load, .route, .dir, .meterStates, .rosters, .ev] s (completeRoute s) := by
  unfold completeRoute
  exact Frame.andThen (ps := [.load, .route, .dir, .meterStates, .rosters]) (by simp [frame_iff, Same])
    (raise_frame _ _) (by decide) (by decide)

theorem headerIssued_frame (k : Nat) (s : State) :
    Frame [.slots, .load, .route, .dir, .meterStates, .rosters, .ev] s (headerIssued k s) := by
  unfold headerIssued
  split
  · exact .refl _ _
  · split
    · dsimp only
      split
      · exact ((modRow_frame _ _ s).seq (completeRoute_frame _)).mono (by decide)
      · exact (modRow_frame _ _ s).mono (by decide)
    · exact .refl _ _

/-- The oldest entry has left the queue for the store. -/
def issued (e : QEntry) (es : List QEntry) (s : State) : State :=
  { s with
    store := s.store.writeOwn e.addr e.data, ins := s.ins.withEntries es
    path := { s.path with lastGrant := .queuedWrite } }

theorem issued_frame (e : QEntry) (es : List QEntry) (s : State) : Frame [.store, .queue, .bus] s (issued e es s) := by
  simp [frame_iff, Same, issued, Inserts.withEntries]

/-- What an issue does: nothing without an entry; else the store takes it, and a notice may follow. -/
theorem issueHead_cases (s : State) :
    (s.ins.entries = [] ∧ issueHead s = s) ∨
      ∃ e es, s.ins.entries = e :: es ∧
        (issueHead s = issued e es s ∨ ∃ k, issueHead s = headerIssued k (issued e es s)) := by
  unfold issueHead
  split
  · exact .inl ⟨‹_›, rfl⟩
  · refine .inr ⟨_, _, ‹_›, ?_⟩
    dsimp only
    split
    · split
      · exact .inr ⟨_, rfl⟩
      · exact .inl rfl
    · exact .inl rfl

theorem issueHead_frame (s : State) :
    Frame [.store, .queue, .bus, .slots, .load, .route, .dir, .meterStates, .rosters, .ev] s (issueHead s) := by
  rcases issueHead_cases s with ⟨-, h⟩ | ⟨e, es, -, h | ⟨k, h⟩⟩ <;> rw [h]
  · exact .refl _ _
  · exact (issued_frame e es s).mono (by decide)
  · exact ((issued_frame e es s).seq (headerIssued_frame k _)).mono (by decide)

theorem endFlight_frame (s : State) : Frame [.queue, .given, .cmd, .ev] s (endFlight s) := by
  unfold endFlight
  exact Frame.andThen (ps := [.queue, .given, .cmd]) (by simp [frame_iff, Same]) (raise_frame _ _) (by decide) (by decide)

theorem ins_frame (i : Inserts) (s : State) : Frame [.queue, .given] s { s with ins := i } := by simp [frame_iff, Same]

theorem joinWrite_frame (p : Producer) (q : QWrite) (s : State) :
    Frame [.queue, .given, .cmd, .ev] s (joinWrite p q s) := by
  cases q with
  | word a d n => exact (ins_frame _ s).mono (by decide)
  | status n => exact (ins_frame _ s).mono (by decide)
  | header k => exact (ins_frame _ s).mono (by decide)
  | respond => exact (ins_frame _ s).mono (by decide)
  | response0 => exact endFlight_frame s

theorem joinHead_frame (s : State) : Frame [.queue, .given, .cmd, .ev] s (joinHead s) := by
  unfold joinHead
  split
  · exact (((ins_frame _ s).seq (joinWrite_frame _ _ _)).seq (ins_frame _ _)).mono (by decide)
  · exact (ins_frame _ s).mono (by decide)
  · exact .refl _ _

theorem flightEnd_frame (s : State) : Frame [.queue, .given, .cmd, .ev] s (flightEnd s) := by
  unfold flightEnd
  split
  · split
    · exact endFlight_frame s
    · exact (ins_frame _ s).mono (by decide)
  · exact joinHead_frame s

/-! ### Segments and polls -/

theorem modPoll_frame (i : Nat) (f : PollEntry → PollEntry) (s : State) : Frame [.pollList] s (modPoll i f s) := by
  simp [frame_iff, Same, modPoll]

theorem removePoll_frame (i : Nat) (s : State) : Frame [.pollList] s (removePoll i s) := by
  simp [frame_iff, Same, removePoll]

theorem addPoll_frame (i : Nat) (s : State) :
    Frame [.pollList, .dir, .meterStates, .route, .ev] s (addPoll i s) := by
  unfold addPoll
  have h1 : Frame [.pollList] s { s with poll := { s.poll with list := s.poll.list ++ [⟨i, 1, none, .queued⟩] } } := by
    simp [frame_iff, Same]
  exact ((h1.seq (modMeter_frame _ (by intro _; rfl))).seq (setMeterState_frame _ _ _)).mono (by decide)

theorem segs_frame (l : List Segment) (a : Option Nat) (s : State) :
    Frame [.route] s { s with route := { s.route with segs := l, activeSeg := a } } := by simp [frame_iff, Same]

theorem leaveSegment_frame (g : Nat) (s : State) :
    Frame [.pollList, .dir, .meterStates, .route, .ev] s (leaveSegment g s) := by
  unfold leaveSegment
  have h1 := Frame.foldl (f := fun u i => addPoll i u) (fun u i => addPoll_frame i u) (walkOf s g) s
  dsimp only
  split
  · exact ((h1.seq (segs_frame _ _ _)).seq (raise_frame _ _)).mono (by decide)
  · exact (h1.seq (segs_frame _ _ _)).mono (by decide)

theorem leaveActive_frame (s : State) : Frame [.pollList, .dir, .meterStates, .route, .ev] s (leaveActive s) := by
  unfold leaveActive
  split
  · exact leaveSegment_frame _ s
  · exact .refl _ _

theorem setTx_frame (k : Nat) (v : TxState) (s : State) : Frame [.pollTx] s (setTx k v s) := by
  simp [frame_iff, Same, setTx]

theorem ring_frame (t : Half) (p : Nat) (s : State) :
    Frame [.pollPos, .pollCounts] s { s with poll := { s.poll with tag := t, ringPos := p } } := by
  simp [frame_iff, Same]

theorem startFrame_frame (e : PollEntry) (m : Meter) (k : Nat) (s : State) :
    Frame [.pollTx, .pollList, .pollPos, .pollCounts, .dir, .given] s (startFrame e m k s) := by
  unfold startFrame
  exact (((((modPoll_frame _ _ s).seq (setTx_frame _ _ _)).seq (ring_frame _ _ _)).seq (modMeter_frame _ (by intro _; rfl))).seq
    (Frame.foldl (fun u q => give_frame .pollUnit q u) _ _)).mono (by decide)

theorem beginFrame_frame (s : State) :
    Frame [.pollTx, .pollList, .pollPos, .pollCounts, .dir, .given] s (beginFrame s) := by
  unfold beginFrame
  split
  · split
    · exact startFrame_frame _ _ _ s
    · exact .refl _ _
  · exact .refl _ _

theorem failAttempt_frame (e : PollEntry) (s : State) :
    Frame [.pollList, .dir, .meterStates, .route, .ev] s (failAttempt e s) := by
  unfold failAttempt
  split
  · exact (modPoll_frame _ _ s).mono (by decide)
  · exact (((removePoll_frame _ s).seq (setMeterState_frame _ _ _)).seq (raise_frame _ _)).mono (by decide)

theorem sent_frame (n : Half) (s : State) : Frame [.pollCounts] s { s with poll := { s.poll with sent := n } } := by
  simp [frame_iff, Same]

theorem takeReport_frame (k : Nat) (v : Word) (s : State) :
    Frame [.pollTx, .pollCounts, .pollList, .dir, .meterStates, .route, .ev] s (takeReport k v s) := by
  unfold takeReport
  split
  · exact .refl _ _
  · split
    · split
      · exact (((setTx_frame _ _ s).seq (modPoll_frame _ _ _)).seq (sent_frame _ _)).mono (by decide)
      · exact (setTx_frame _ _ s).mono (by decide)
    · split
      · split
        · exact ((setTx_frame _ _ s).seq (failAttempt_frame _ _)).mono (by decide)
        · exact (setTx_frame _ _ s).mono (by decide)
      · exact .refl _ _

theorem withdrawFrame_frame (k : Nat) (s : State) : Frame [.pollTx, .pollList] s (withdrawFrame k s) := by
  unfold withdrawFrame
  dsimp only
  split
  · exact ((setTx_frame _ _ s).seq (modPoll_frame _ _ _)).mono (by decide)
  · exact (setTx_frame _ _ s).mono (by decide)

theorem expire_frame (i : Nat) (s : State) : Frame [.pollList, .dir, .meterStates, .route, .ev] s (expire i s) := by
  unfold expire
  split
  · exact failAttempt_frame _ s
  · exact .refl _ _

theorem pollList_frame (l : List PollEntry) (s : State) :
    Frame [.pollList] s { s with poll := { s.poll with list := l } } := by simp [frame_iff, Same]

theorem release_frame (i : Nat) (s : State) : Frame [.pollList] s (release i s) := by
  unfold release
  split
  · exact ((removePoll_frame _ s).seq (pollList_frame _ _)).mono (by decide)
  · exact .refl _ _

/-! ### The Capture Unit -/

theorem modCap_frame (k : Nat) (f : CapSlot → CapSlot) (s : State) : Frame [.capSlots] s (modCap k f s) := by
  simp [frame_iff, Same]

theorem commitPosition_frame (s : State) : Frame [.capCounts] s (commitPosition s) := by
  simp [frame_iff, Same, commitPosition]

theorem takeOverrun_frame (k : Nat) (s : State) : Frame [.capLists, .capCounts, .ev] s (takeOverrun k s) := by
  unfold takeOverrun
  exact Frame.andThen (ps := [.capLists, .capCounts]) (by simp [frame_iff, Same]) (raise_frame _ _) (by decide) (by decide)

theorem armSlot_frame (k : Nat) (s : State) : Frame [.capSlots, .capLists, .capCounts, .ev] s (armSlot k s) := by
  unfold armSlot
  dsimp only
  split
  · exact ((takeOverrun_frame k s).seq (modCap_frame _ _ _)).mono (by decide)
  · exact (modCap_frame _ _ s).mono (by decide)

theorem completeSlot_frame (k : Nat) (s : State) : Frame [.capSlots, .capLists] s (completeSlot k s) := by
  simp [frame_iff, Same, completeSlot]

theorem finalVerdict_frame (b : Burst) (code : Byte) (flags : Word) (index : Half) (s : State) :
    Frame [.capSlots, .given] s (finalVerdict b code flags index s) := by
  unfold finalVerdict
  split
  · exact ((modCap_frame _ _ s).seq (giveData_frame _ _ _ _)).mono (by decide)
  · exact .refl _ _

theorem refuseBurst_frame (b : Burst) (code : Byte) (s : State) :
    Frame [.capSlots, .given] s (refuseBurst b code s) := finalVerdict_frame _ _ _ _ s

theorem fixReading_frame (i : Nat) (c : Confirmed) (matched : Bool) (s : State) :
    Frame [.dir, .meterStates, .route, .ev] s (fixReading i c matched s) := by
  unfold fixReading
  exact ((modMeter_frame s (by intro _; rfl)).seq (setMeterState_frame _ _ _)).mono (by decide)

theorem pollAnswered_frame (n : Half) (s : State) :
    Frame [.pollCounts] s { s with poll := { s.poll with answered := n } } := by simp [frame_iff, Same]

theorem endPoll_frame (i : Nat) (matched : Bool) (s : State) :
    Frame [.pollList, .pollCounts] s (endPoll i matched s) := by
  unfold endPoll
  exact ((removePoll_frame _ s).seq (pollAnswered_frame _ _)).mono (by decide)

theorem requestReading_frame (i : Nat) (s : State) : Frame [.dir, .requests] s (requestReading i s) := by
  unfold requestReading
  exact ((modMeter_frame s (by intro _; rfl)).seq (backlog_frame _ _)).mono (by decide)

/-- The parts a confirmation may change. -/
def confirmParts : List Part :=
  [.dir, .meterStates, .route, .ev, .pollList, .pollCounts, .requests, .tamperList, .tamperCounts, .slots, .given]

theorem confirm_frame (i : Nat) (c : Confirmed) (matched : Bool) (causes : Byte) (s : State) :
    Frame confirmParts s (confirm i c matched causes s) := by
  unfold confirm
  exact ((((fixReading_frame i c matched s).seq (endPoll_frame _ _ _)).seq (addCauses_frame _ _ _)).seq
    (requestReading_frame _ _)).mono (by decide)

/-- The parts an accepted burst may change. -/
def acceptParts : List Part := .capSlots :: confirmParts

theorem castVote_frame (b : Burst) (i : Nat) (m : Meter) (flags : Word) (s : State) :
    Frame acceptParts s (castVote b i m flags s) := by
  unfold castVote
  dsimp only
  split
  · exact Frame.mono (((modMeter_frame s (by intro _; rfl)).seq (confirm_frame _ _ _ _ _)).seq (finalVerdict_frame _ _ _ _ _)) (by decide)
  · split
    · exact Frame.mono (((modMeter_frame s (by intro _; rfl)).seq (confirm_frame _ _ _ _ _)).seq (finalVerdict_frame _ _ _ _ _)) (by decide)
    · exact Frame.mono (((modMeter_frame s (by intro _; rfl)).seq (setMeterState_frame _ _ _)).seq (finalVerdict_frame _ _ _ _ _)) (by decide)

theorem judgeRepeat_frame (b : Burst) (i : Nat) (c : Confirmed) (flags : Word) (s : State) :
    Frame acceptParts s (judgeRepeat b i c flags s) := by
  unfold judgeRepeat
  dsimp only
  split
  · exact Frame.mono (((modMeter_frame s (by intro _; rfl)).seq (modMeter_frame _ (by intro _; rfl))).seq (finalVerdict_frame _ _ _ _ _)) (by decide)
  · exact Frame.mono (((modMeter_frame s (by intro _; rfl)).seq (addCauses_frame _ _ _)).seq (finalVerdict_frame _ _ _ _ _)) (by decide)

theorem matchResponse_frame (b : Burst) (i : Nat) (m : Meter) (flags : Word) (s : State) :
    Frame acceptParts s (matchResponse b i m flags s) := by
  unfold matchResponse
  exact Frame.mono (((modMeter_frame s (by intro _; rfl)).seq (confirm_frame _ _ _ _ _)).seq (finalVerdict_frame _ _ _ _ _)) (by decide)

theorem judgeOrdinary_frame (b : Burst) (i : Nat) (m : Meter) (flags : Word) (s : State) :
    Frame acceptParts s (judgeOrdinary b i m flags s) := by
  unfold judgeOrdinary
  split
  · exact (finalVerdict_frame _ _ _ _ s).mono (by decide)
  · split
    · split
      · exact judgeRepeat_frame _ _ _ _ s
      · exact .refl _ _
    · exact castVote_frame _ _ _ _ s

theorem acceptBurst_frame (b : Burst) (i : Nat) (m : Meter) (s : State) :
    Frame acceptParts s (acceptBurst b i m s) := by
  unfold acceptBurst
  dsimp only
  have h (f : Byte) : Frame acceptParts s (addCauses i f (modMeter i (heardMeter b) s)) :=
    ((modMeter_frame s (by intro _; rfl)).seq (addCauses_frame _ _ _)).mono (by decide)
  split
  · split
    · exact (h _).trans (matchResponse_frame _ _ _ _ _)
    · exact (h _).trans (judgeOrdinary_frame _ _ _ _ _)
  · exact (h _).trans (judgeOrdinary_frame _ _ _ _ _)

/-- The parts a judgement may change. -/
def judgeParts : List Part := [.capLists, .capCounts, .cutMarks] ++ acceptParts

theorem judgeMeter_frame (b : Burst) (s : State) : Frame judgeParts s (judgeMeter b s) := by
  unfold judgeMeter
  split
  · split
    · exact (acceptBurst_frame _ _ _ s).mono (by decide)
    · exact .refl _ _
  · exact Frame.andThen (ps := [.capCounts]) (by simp [frame_iff, Same]) (refuseBurst_frame _ _ _) (by decide) (by decide)

theorem judgeOpen_frame (b : Burst) (s : State) : Frame judgeParts s (judgeOpen b s) := by
  unfold judgeOpen
  dsimp only
  have h : Frame judgeParts s { s with cap := { s.cap with routeJudged := satInc s.cap.routeJudged } } :=
    Frame.mono (ps := [.capCounts]) (by simp [frame_iff, Same]) (by decide)
  split
  · exact h.trans ((refuseBurst_frame _ _ _).mono (by decide))
  · split
    · exact h.trans ((refuseBurst_frame _ _ _).mono (by decide))
    · split
      · exact h.trans ((refuseBurst_frame _ _ _).mono (by decide))
      · exact h.trans (judgeMeter_frame _ _)

theorem deferBurst_frame (b : Burst) (s : State) :
    Frame [.capLists, .capCounts, .capSlots, .cutMarks, .given] s (deferBurst b s) := by
  unfold deferBurst
  split
  · exact Frame.andThen (ps := [.capLists, .cutMarks]) (by simp [frame_iff, Same]) (giveData_frame _ _ _ _) (by decide) (by decide)
  · exact Frame.andThen (ps := [.capCounts]) (by simp [frame_iff, Same]) (refuseBurst_frame _ _ _) (by decide) (by decide)

theorem judge_frame (b : Burst) (s : State) : Frame judgeParts s (judge b s) := by
  unfold judge
  split
  · exact (refuseBurst_frame _ _ s).mono (by decide)
  · exact (refuseBurst_frame _ _ s).mono (by decide)
  · exact judgeOpen_frame b s
  · exact (deferBurst_frame b s).mono (by decide)

theorem judgeHead_frame (s : State) : Frame judgeParts s (judgeHead s) := by
  unfold judgeHead
  split
  · exact .refl _ _
  · exact Frame.andThen (ps := [.capLists]) (by simp [frame_iff, Same]) (judge_frame _ _) (by decide) (by decide)

theorem judgeDeferred_frame (s : State) : Frame judgeParts s (judgeDeferred s) := by
  unfold judgeDeferred
  split
  · exact .refl _ _
  · exact Frame.andThen (ps := [.capLists]) (by simp [frame_iff, Same]) (judge_frame _ _) (by decide) (by decide)

theorem flushDeferred_frame (s : State) : Frame [.capLists, .capSlots, .given] s (flushDeferred s) := by
  unfold flushDeferred
  exact Frame.andThen (ps := [.capLists]) (by simp [frame_iff, Same])
    (Frame.foldl (fun t b => refuseBurst_frame b vNoRoute t) _ _) (by decide) (by decide)

theorem cancelVerdict_frame (k : Nat) (data : Word) (s : State) : Frame [.capSlots] s (cancelVerdict k data s) := by
  unfold cancelVerdict
  split
  · exact modCap_frame _ _ s
  · exact .refl _ _

theorem verdictRead_frame (k : Nat) (data : Word) (s : State) : Frame [.capSlots] s (verdictRead k data s) := by
  unfold verdictRead
  split
  · exact modCap_frame _ _ s
  · exact .refl _ _

/-! ### The load -/

theorem load_frame (l : Option Load) (s : State) :
    Frame [.load] s { s with route := { s.route with load := l } } := by simp [frame_iff, Same]

theorem routeOpenWork_frame (s : State) : Frame [.load, .cmd, .given] s (routeOpenWork s) := by
  unfold routeOpenWork
  split
  · split
    · exact (respond_frame _ _ s).mono (by decide)
    · exact (load_frame _ s).mono (by decide)
  · exact (respond_frame _ _ s).mono (by decide)
  · exact (respond_frame _ _ s).mono (by decide)
  · exact (respond_frame _ _ s).mono (by decide)

theorem enterLoading_frame (n : Half) (s : State) :
    Frame [.load, .route, .rosters, .capCounts, .pollCounts, .tamperCounts] s (enterLoading n s) := by
  simp [frame_iff, Same, enterLoading]

theorem refuseOpen_frame (status : Byte) (n : Half) (s : State) :
    Frame [.load, .cmd, .given] s (refuseOpen status n s) := by
  unfold refuseOpen
  exact ((load_frame _ s).seq (respond_frame _ _ _)).mono (by decide)

theorem takeNumber_frame (d : Disturb) (s : State) :
    Frame [.bus, .ev, .flt, .load, .cmd, .given, .route, .rosters, .capCounts, .pollCounts, .tamperCounts] s
      (takeNumber d s) := by
  unfold takeNumber
  dsimp only
  have h := completeRead_frame d s
  split
  · exact (h.seq (refuseOpen_frame _ _ _)).mono (by decide)
  · split
    · exact (h.seq (refuseOpen_frame _ _ _)).mono (by decide)
    · split
      · exact (h.seq (refuseOpen_frame _ _ _)).mono (by decide)
      · split
        · exact (h.seq (refuseOpen_frame _ _ _)).mono (by decide)
        · exact (h.seq (enterLoading_frame _ _)).mono (by decide)

theorem failLoad_frame (status : Byte) (at_ detail : Word) (route : Half) (s : State) :
    Frame [.dir, .meterStates, .rosters, .load, .route, .capLists, .capSlots, .cmd, .given] s
      (failLoad status at_ detail route s) := by
  unfold failLoad
  exact Frame.andThen (ps := [.dir, .meterStates, .rosters, .load, .route]) (by simp [frame_iff, Same])
    ((flushDeferred_frame _).seq (respond_frame _ _ _)) (by decide) (by decide)

theorem succeedLoad_frame (route : Half) (h : List Word) (s : State) :
    Frame [.load, .route, .cmd, .given] s (succeedLoad route h s) := by
  unfold succeedLoad
  exact Frame.andThen (ps := [.load, .route]) (by simp [frame_iff, Same]) (respond_frame _ _ _) (by decide) (by decide)

/-- The parts a load's read may change. -/
def loadParts : List Part :=
  [.bus, .ev, .flt, .dir, .meterStates, .rosters, .load, .route, .capLists, .capSlots, .cmd, .given]

theorem takeHeader_frame (d : Disturb) (route : Half) (words : List Word) (crc : Word) (s : State) :
    Frame loadParts s (takeHeader d route words crc s) := by
  unfold takeHeader
  dsimp only
  have h := completeRead_frame d s
  split
  · exact (h.seq (failLoad_frame _ _ _ _ _)).mono (by decide)
  · split
    · exact (h.seq (load_frame _ _)).mono (by decide)
    · split
      · exact (h.seq (load_frame _ _)).mono (by decide)
      · exact (h.seq (failLoad_frame _ _ _ _ _)).mono (by decide)

theorem headerStep_frame (d : Disturb) (s : State) : Frame loadParts s (headerStep d s) := by
  unfold headerStep
  split
  · exact takeHeader_frame _ _ _ _ s
  · exact .refl _ _

theorem closeLoad_frame (route : Half) (h : List Word) (crc : Word) (s : State) :
    Frame loadParts s (closeLoad route h crc s) := by
  unfold closeLoad
  split
  · exact (succeedLoad_frame _ _ s).mono (by decide)
  · exact (failLoad_frame _ _ _ _ s).mono (by decide)

theorem checkEntry_frame (route : Half) (h : List Word) (i : Nat) (ws : List Word) (crc : Word) (s : State) :
    Frame loadParts s (checkEntry route h i ws crc s) := by
  unfold checkEntry
  dsimp only
  split
  · exact (failLoad_frame _ _ _ _ s).mono (by decide)
  · split
    · exact (failLoad_frame _ _ _ _ s).mono (by decide)
    · split
      · exact (failLoad_frame _ _ _ _ s).mono (by decide)
      · split
        · exact Frame.mono (ps := [.dir, .meterStates, .load]) (by simp [frame_iff, Same]) (by decide)
        · exact ((dir_frame _ s).seq (closeLoad_frame _ _ _ _)).mono (by decide)

theorem takeEntry_frame (d : Disturb) (route : Half) (h : List Word) (i : Nat) (words : List Word) (crc : Word)
    (s : State) : Frame loadParts s (takeEntry d route h i words crc s) := by
  unfold takeEntry
  dsimp only
  have hr := completeRead_frame d s
  split
  · exact (hr.seq (failLoad_frame _ _ _ _ _)).mono (by decide)
  · split
    · exact (hr.seq (load_frame _ _)).mono (by decide)
    · exact (hr.seq (checkEntry_frame _ _ _ _ _ _)).mono (by decide)

theorem entryStep_frame (d : Disturb) (s : State) : Frame loadParts s (entryStep d s) := by
  unfold entryStep
  split
  · exact takeEntry_frame _ _ _ _ _ _ s
  · exact .refl _ _

/-! ### The Route Unit's commands -/

/-- The parts a change of segment may change, with the response. -/
def segmentParts : List Part := [.pollList, .dir, .meterStates, .route, .ev, .cmd, .given]

theorem enterSegment_frame (n : Nat) (s : State) : Frame [.route] s (enterSegment n s) := by
  simp [frame_iff, Same, enterSegment]

theorem segmentEnterWork_frame (n : Word) (s : State) : Frame segmentParts s (segmentEnterWork n s) := by
  unfold segmentEnterWork
  split
  · exact (respond_frame _ _ s).mono (by decide)
  · split
    · exact (respond_frame _ _ s).mono (by decide)
    · exact (((leaveActive_frame s).seq (enterSegment_frame _ _)).seq (respond_frame _ _ _)).mono (by decide)

theorem segmentLeaveWork_frame (s : State) : Frame segmentParts s (segmentLeaveWork s) := by
  unfold segmentLeaveWork
  split
  · exact (respond_frame _ _ s).mono (by decide)
  · split
    · exact (respond_frame _ _ s).mono (by decide)
    · exact ((leaveActive_frame s).seq (respond_frame _ _ _)).mono (by decide)

theorem staged_frame (th : Thresholds) (s : State) :
    Frame [.route] s { s with route := { s.route with staged := th } } := by simp [frame_iff, Same]

theorem thresholdStageWork_frame (floor excess low drift : Word) (s : State) :
    Frame [.route, .cmd, .given] s (thresholdStageWork floor excess low drift s) := by
  unfold thresholdStageWork
  split
  · exact (respond_frame _ _ s).mono (by decide)
  · split
    · exact (respond_frame _ _ s).mono (by decide)
    · exact ((staged_frame _ s).seq (respond_frame _ _ _)).mono (by decide)

theorem thresholdNudgeWork_frame (sel step : Word) (s : State) :
    Frame [.route, .cmd, .given] s (thresholdNudgeWork sel step s) := by
  unfold thresholdNudgeWork
  split
  · exact (respond_frame _ _ s).mono (by decide)
  · split
    · exact (respond_frame _ _ s).mono (by decide)
    · exact ((staged_frame _ s).seq (respond_frame _ _ _)).mono (by decide)

theorem pollNowWork_frame (id : Word) (s : State) : Frame segmentParts s (pollNowWork id s) := by
  unfold pollNowWork
  split
  · exact (respond_frame _ _ s).mono (by decide)
  · split
    · exact (respond_frame _ _ s).mono (by decide)
    · split
      · exact (respond_frame _ _ s).mono (by decide)
      · dsimp only
        split
        · exact (respond_frame _ _ s).mono (by decide)
        · exact ((addPoll_frame _ s).seq (respond_frame _ _ _)).mono (by decide)

theorem meterQueryWork_frame (id : Word) (s : State) : Frame [.cmd, .given] s (meterQueryWork id s) := by
  unfold meterQueryWork
  split
  · exact respond_frame _ _ s
  · split
    · exact respond_frame _ _ s
    · split
      · exact respond_frame _ _ s
      · exact respond_frame _ _ s

theorem cutPoll_frame (s : State) (e : PollEntry) :
    Frame [.pollList, .dir, .meterStates, .route, .ev] s (cutPoll s e) := by
  unfold cutPoll
  split
  · exact ((removePoll_frame _ s).seq (setMeterState_frame _ _ _)).mono (by decide)
  · exact (removePoll_frame _ s).mono (by decide)

theorem requestMisses_frame (misses : List (Nat × MissReason)) (s : State) :
    Frame [.requests, .dir, .load, .route] s (requestMisses misses s) := by
  simp [frame_iff, Same, requestMisses, Function.comp_def]

theorem routeCloseWork_frame (s : State) :
    Frame ([.requests, .load] ++ segmentParts) s (routeCloseWork s) := by
  unfold routeCloseWork
  split
  · exact (respond_frame _ _ s).mono (by decide)
  · exact ((((leaveActive_frame s).seq (Frame.foldl cutPoll_frame _ _)).seq (requestMisses_frame _ _)).seq
      (respond_frame _ _ _)).mono (by decide)

end Sys2Proof.Machine
end

section
/-! Frames of the scan, the uploads, the timing, the accesses, and what one step can do. -/
namespace Sys2Proof.Machine

/-! ### The scan -/

theorem findings_frame (f : List (Nat × SlotRow)) (sc : Scan) (s : State) :
    Frame [.scan] s { s with sm := { s.sm with findings := f, scan := sc } } := by simp [frame_iff, Same]

theorem setFinding_frame (k : Nat) (r : SlotRow) (s : State) : Frame [.scan] s (setFinding k r s) :=
  findings_frame _ _ s

theorem foundRecord_frame (k : Nat) (kind : Kind) (w0 w1 w2 : Word) (s : State) :
    Frame [.scan, .rosters, .requests] s (foundRecord k kind w0 w1 w2 s) := by
  unfold foundRecord
  dsimp only
  split
  · exact Frame.andThen (ps := [.rosters, .requests]) (by simp [frame_iff, Same]) (setFinding_frame _ _ _) (by decide) (by decide)
  · exact Frame.andThen (ps := [.requests]) (by simp [frame_iff, Same]) (setFinding_frame _ _ _) (by decide) (by decide)

theorem decideSlot_frame (k : Nat) (w0 w1 w2 : Word) (s : State) :
    Frame [.scan, .rosters, .requests] s (decideSlot k w0 w1 w2 s) := by
  unfold decideSlot
  split
  · exact .refl _ _
  · split
    · exact foundRecord_frame _ _ _ _ _ s
    · exact (setFinding_frame _ _ s).mono (by decide)

/-- The parts the scan may change beside the read. -/
def scanParts : List Part := [.slots, .scan, .rosters, .requests, .ev]

theorem endScan_frame (s : State) : Frame scanParts s (endScan s) := by
  unfold endScan
  dsimp only
  split
  · exact Frame.andThen (ps := [.slots, .scan, .rosters, .requests]) (by simp [frame_iff, Same]) (raise_frame _ _) (by decide) (by decide)
  · exact Frame.mono (ps := [.slots, .scan, .rosters, .requests]) (by simp [frame_iff, Same]) (by decide)

theorem rebuildFrom_frame (rest : List Nat) (s : State) : Frame scanParts s (rebuildFrom rest s) := by
  unfold rebuildFrom
  split
  · exact endScan_frame s
  · exact (findings_frame _ _ s).mono (by decide)

theorem afterSlot_frame (k : Nat) (s : State) : Frame scanParts s (afterSlot k s) := by
  unfold afterSlot afterSlots
  split
  · exact (findings_frame _ _ s).mono (by decide)
  · exact Frame.andThen (ps := [.requests]) (by simp [frame_iff, Same]) (rebuildFrom_frame _ _) (by decide) (by decide)

theorem takeScanWord_frame (d : Disturb) (k : Nat) (words : List Word) (s : State) :
    Frame ([.bus, .flt] ++ scanParts) s (takeScanWord d k words s) := by
  unfold takeScanWord
  dsimp only
  have h := completeRead_frame d s
  split
  · exact ((h.seq (setFinding_frame _ _ _)).seq (afterSlot_frame _ _)).mono (by decide)
  · split
    · exact ((h.seq (decideSlot_frame _ _ _ _ _)).seq (afterSlot_frame _ _)).mono (by decide)
    · exact (h.seq (findings_frame _ _ _)).mono (by decide)

theorem scanStep_frame (d : Disturb) (s : State) : Frame ([.bus, .flt] ++ scanParts) s (scanStep d s) := by
  unfold scanStep
  split
  · exact takeScanWord_frame _ _ _ s
  · exact .refl _ _

theorem quarantineFinding_frame (k : Nat) (s : State) : Frame [.scan, .rosters] s (quarantineFinding k s) := by
  unfold quarantineFinding
  exact Frame.andThen (ps := [.rosters]) (by simp [frame_iff, Same]) (setFinding_frame _ _ _) (by decide) (by decide)

/-- The parts the rebuild may change. -/
def rebuildParts : List Part := [.bus, .flt, .tamperList, .tamperCounts] ++ scanParts

theorem takeRebuildWord_frame (d : Disturb) (k : Nat) (rest : List Nat) (meter : Option Word) (s : State) :
    Frame rebuildParts s (takeRebuildWord d k rest meter s) := by
  unfold takeRebuildWord
  dsimp only
  have h := completeRead_frame d s
  split
  · exact ((h.seq (quarantineFinding_frame _ _)).seq (rebuildFrom_frame _ _)).mono (by decide)
  · split
    · exact (h.seq (findings_frame _ _ _)).mono (by decide)
    · exact ((h.seq (createTamper_frame _ _)).seq (rebuildFrom_frame _ _)).mono (by decide)

theorem rebuildStep_frame (d : Disturb) (s : State) : Frame rebuildParts s (rebuildStep d s) := by
  unfold rebuildStep
  split
  · exact takeRebuildWord_frame _ _ _ _ s
  · exact .refl _ _

/-! ### The Upload Unit -/

theorem giveManifest_frame (id : Half) (state count : Nat) (digest : Word) (s : State) :
    Frame [.given] s (giveManifest id state count digest s) := by simp [frame_iff, Same, giveManifest]

theorem moveSlots_frame (items : List BatchItem) (st : RecState) (s : State) :
    Frame [.slots] s (moveSlots items st s) :=
  Frame.foldl (f := fun t it => modRow it.slot (fun r => { r with state := st }) t)
    (fun t it => modRow_frame it.slot _ t) items s

theorem up_frame (u : Upload) (s : State) : Frame [.up] s { s with up := u } := by simp [frame_iff, Same]

theorem acceptBegin_frame (max : Nat) (s : State) : Frame [.slots, .up, .given] s (acceptBegin max s) := by
  unfold acceptBegin
  exact (((moveSlots_frame _ _ s).seq (up_frame _ _)).seq (giveManifest_frame _ _ _ _ _)).mono (by decide)

/-- The parts an Upload Unit command may change. -/
def uploadParts : List Part := [.slots, .up, .rosters, .tamperList, .cmd, .given]

theorem uploadBeginWork_frame (max : Word) (s : State) : Frame uploadParts s (uploadBeginWork max s) := by
  unfold uploadBeginWork
  split
  · exact (respond_frame _ _ s).mono (by decide)
  · split
    · exact (respond_frame _ _ s).mono (by decide)
    · split
      · exact (respond_frame _ _ s).mono (by decide)
      · split
        · exact (respond_frame _ _ s).mono (by decide)
        · exact (acceptBegin_frame _ s).mono (by decide)

theorem respondUpload_frame (st : Byte) (r : List Word) (s : State) : Frame [.cmd, .given] s (respondUpload st r s) :=
  respondBehind_frame _ _ s

theorem endBuild_frame (b : Batch) (items : List BatchItem) (s : State) :
    Frame [.up, .cmd, .given] s (endBuild b items s) := by
  unfold endBuild
  exact (((up_frame _ s).seq (giveManifest_frame _ _ _ _ _)).seq (respondUpload_frame _ _ _)).mono (by decide)

theorem failBuild_frame (b : Batch) (slot : Nat) (s : State) :
    Frame [.slots, .up, .cmd, .given] s (failBuild b slot s) := by
  unfold failBuild
  exact ((((moveSlots_frame _ _ s).seq (up_frame _ _)).seq (giveManifest_frame _ _ _ _ _)).seq
    (respondUpload_frame _ _ _)).mono (by decide)

theorem giveEntry_frame (j slot : Nat) (crc : Word) (s : State) : Frame [.given] s (giveEntry j slot crc s) := by
  simp [frame_iff, Same, giveEntry]

theorem buildWord_frame (b : Batch) (it : BatchItem) (w : Word) (s : State) :
    Frame [.up, .cmd, .given] s (buildWord b it w s) := by
  unfold buildWord
  dsimp only
  split
  · exact (up_frame _ s).mono (by decide)
  · split
    · exact ((giveEntry_frame _ _ _ s).seq (up_frame _ _)).mono (by decide)
    · exact ((giveEntry_frame _ _ _ s).seq (endBuild_frame _ _ _)).mono (by decide)

theorem buildStep_frame (d : Disturb) (s : State) :
    Frame [.bus, .ev, .flt, .slots, .up, .cmd, .given] s (buildStep d s) := by
  unfold buildStep
  split
  · exact .refl _ _
  · split
    · exact .refl _ _
    · dsimp only
      split
      · exact ((completeRead_frame d s).seq (failBuild_frame _ _ _)).mono (by decide)
      · exact ((completeRead_frame d s).seq (buildWord_frame _ _ _ _)).mono (by decide)

theorem fetchRead_frame (k w : Nat) (s : State) : Frame [.up, .given] s (fetchRead k w s) := by
  unfold fetchRead
  split
  · exact .refl _ _
  · split
    · dsimp only
      split
      · exact ((up_frame _ s).seq (giveManifest_frame _ _ _ _ _)).mono (by decide)
      · exact (up_frame _ s).mono (by decide)
    · exact .refl _ _

theorem releaseSlot_frame (s : State) (it : BatchItem) :
    Frame [.slots, .rosters, .tamperList, .given] s (releaseSlot s it) := by
  unfold releaseSlot
  exact Frame.andThen (ps := [.slots, .rosters, .tamperList]) (by simp [frame_iff, Same]) (giveData_frame _ _ _ _) (by decide) (by decide)

theorem releaseBatch_frame (b : Batch) (s : State) : Frame uploadParts s (releaseBatch b s) := by
  unfold releaseBatch
  exact ((((Frame.foldl releaseSlot_frame b.items s).seq (up_frame _ _)).seq (giveManifest_frame _ _ _ _ _)).seq
    (respondUpload_frame _ _ _)).mono (by decide)

theorem uploadAckWork_frame (id digest : Word) (s : State) : Frame uploadParts s (uploadAckWork id digest s) := by
  unfold uploadAckWork
  split
  · exact (respond_frame _ _ s).mono (by decide)
  · dsimp only
    split
    · exact (respond_frame _ _ s).mono (by decide)
    · split
      · exact (respond_frame _ _ s).mono (by decide)
      · split
        · exact (respond_frame _ _ s).mono (by decide)
        · exact releaseBatch_frame _ s

theorem uploadAbandonWork_frame (id : Word) (s : State) :
    Frame [.slots, .up, .cmd, .given] s (uploadAbandonWork id s) := by
  unfold uploadAbandonWork
  split
  · exact (respond_frame _ _ s).mono (by decide)
  · split
    · exact (respond_frame _ _ s).mono (by decide)
    · exact ((((moveSlots_frame _ _ s).seq (up_frame _ _)).seq (giveManifest_frame _ _ _ _ _)).seq
        (respondUpload_frame _ _ _)).mono (by decide)

/-! ### Events, faults, clock, edges -/

theorem eventEnableWork_frame (notify wake : Word) (s : State) :
    Frame [.ev, .cmd, .given] s (eventEnableWork notify wake s) := by
  unfold eventEnableWork
  split
  · exact (respond_frame _ _ s).mono (by decide)
  · exact Frame.andThen (ps := [.ev]) (by simp [frame_iff, Same]) (respond_frame _ _ _) (by decide) (by decide)

theorem eventClearWork_frame (mask : Word) (s : State) : Frame [.ev, .cmd, .given] s (eventClearWork mask s) := by
  unfold eventClearWork
  split
  · exact (respond_frame _ _ s).mono (by decide)
  · exact Frame.andThen (ps := [.ev]) (by simp [frame_iff, Same]) (respondBehind_frame _ _ _) (by decide) (by decide)

theorem faultClearWork_frame (s : State) : Frame [.flt, .cmd, .given] s (faultClearWork s) := by
  unfold faultClearWork
  exact Frame.andThen (ps := [.flt]) (by simp [frame_iff, Same, clearedFaults]) (respond_frame _ _ _) (by decide) (by decide)

theorem detectorFull_frame (s : State) : Frame [.detector, .flt, .ev] s (detectorFull s) := by
  unfold detectorFull
  dsimp only
  split
  · simp [frame_iff, Same]
  · exact Frame.andThen (ps := [.detector, .flt]) (by simp [frame_iff, Same]) (raise_frame _ _) (by decide) (by decide)

theorem refclkEdge_frame (s : State) : Frame [.detector, .clk] s (refclkEdge s) := by
  unfold refclkEdge
  dsimp only
  split
  · simp [frame_iff, Same, refclkSeen]
  · split <;> simp [frame_iff, Same, refclkSeen, advanceClock]

theorem bclkEdge_frame (s : State) : Frame [.detector, .flt, .ev, .pulse] s (bclkEdge s) := by
  unfold bclkEdge detectorEdge
  split
  · exact Frame.andThen (ps := [.ev, .pulse]) (by simp [frame_iff, Same]) (detectorFull_frame _) (by decide) (by decide)
  · simp [frame_iff, Same]

theorem sleepEdge_frame (s : State) (level : Bool) : Frame [.detector, .flt, .ev, .pulse] s (sleepEdge s level) := by
  unfold sleepEdge
  exact Frame.andThen (ps := [.ev]) (by simp [frame_iff, Same]) (bclkEdge_frame _) (by decide) (by decide)

/-! ### The Command Unit -/

/-- The parts a host command may change. -/
def commandParts : List Part :=
  [.cmd, .given, .dir, .meterStates, .load, .route, .pollList, .tamperList, .slots, .rosters, .requests, .up, .ev, .flt]

/-- The parts that the work of a command may change. -/
def HostCommand.parts : HostCommand → List Part
  | .routeOpen => [.load, .cmd, .given]
  | .routeClose => [.requests, .load] ++ segmentParts
  | .segmentEnter => segmentParts
  | .segmentLeave => segmentParts
  | .thresholdStage => [.route, .cmd, .given]
  | .thresholdNudge => [.route, .cmd, .given]
  | .pollNow => segmentParts
  | .meterQuery => [.cmd, .given]
  | .tamperAck => [.tamperList, .slots, .given, .dir, .cmd]
  | .uploadBegin => uploadParts
  | .uploadAck => uploadParts
  | .uploadAbandon => [.slots, .up, .cmd, .given]
  | .eventEnable => [.ev, .cmd, .given]
  | .eventClear => [.ev, .cmd, .given]
  | .faultClear => [.flt, .cmd, .given]

theorem HostCommand.parts_sub (c : HostCommand) : ∀ p ∈ c.parts, p ∈ commandParts := by cases c <;> decide

theorem runCommand_frame (c : HostCommand) (ps : List Word) (s : State) :
    Frame c.parts s (runCommand c ps s) := by
  cases c with
  | routeOpen => exact (routeOpenWork_frame s).mono (by decide)
  | routeClose => exact (routeCloseWork_frame s).mono (by decide)
  | segmentEnter => exact (segmentEnterWork_frame _ s).mono (by decide)
  | segmentLeave => exact (segmentLeaveWork_frame s).mono (by decide)
  | thresholdStage => exact (thresholdStageWork_frame _ _ _ _ s).mono (by decide)
  | thresholdNudge => exact (thresholdNudgeWork_frame _ _ s).mono (by decide)
  | pollNow => exact (pollNowWork_frame _ s).mono (by decide)
  | meterQuery => exact (meterQueryWork_frame _ s).mono (by decide)
  | tamperAck => exact (tamperAckWork_frame _ s).mono (by decide)
  | uploadBegin => exact (uploadBeginWork_frame _ s).mono (by decide)
  | uploadAck => exact (uploadAckWork_frame _ _ s).mono (by decide)
  | uploadAbandon => exact (uploadAbandonWork_frame _ s).mono (by decide)
  | eventEnable => exact (eventEnableWork_frame _ _ s).mono (by decide)
  | eventClear => exact (eventClearWork_frame _ s).mono (by decide)
  | faultClear => exact (faultClearWork_frame s).mono (by decide)

/-- A commit does nothing but mark a collision, answer a refusal, or run one command after the scan. -/
theorem commitCommand_cases (s : State) :
    Frame [.cmd, .given] s (commitCommand s) ∨
      ∃ c ps t, Frame [.cmd] s t ∧ t.scanDone = true ∧ commitCommand s = runCommand c ps t := by
  have hb : Frame [.cmd] s (beginFlight s) := by simp [frame_iff, Same, beginFlight]
  unfold commitCommand
  split
  · exact .inl (by simp [frame_iff, Same])
  · unfold checkAndRun
    split
    · exact .inl ((hb.seq (respond_frame _ _ _)).mono (by decide))
    · split
      · exact .inr ⟨_, _, _, hb, ‹_›, rfl⟩
      · exact .inl ((hb.seq (respond_frame _ _ _)).mono (by decide))

theorem commitCommand_frame (s : State) : Frame commandParts s (commitCommand s) := by
  rcases commitCommand_cases s with h | ⟨c, ps, t, ht, -, he⟩
  · exact h.mono (by decide)
  · rw [he]
    exact (ht.mono (by decide)).trans ((runCommand_frame c ps t).mono c.parts_sub)

end Sys2Proof.Machine
end

section
/-! Accesses, events and steps: what each can do, once for all invariants. -/
namespace Sys2Proof.Machine

/-! ### Accesses -/

theorem passSnapshot_frame (win : Window) (s : State) : Frame [.bus] s (passSnapshot win s) := by
  simp [frame_iff, Same, passSnapshot]

theorem blockWrite_frame (addr : Nat) (reason : BlockReason) (s : State) :
    Frame [.bus, .ev] s (blockWrite addr reason s) := by
  unfold blockWrite
  exact Frame.andThen (ps := [.bus]) (by simp [frame_iff, Same]) (raise_frame _ _) (by decide) (by decide)

theorem storeWrite_frame (addr : Nat) (w : BusWord) (be : BitVec 4) (s : State) :
    Frame [.store] s (storeWrite addr w be s) := by simp [frame_iff, Same, storeWrite]

theorem takeShadow_frame (addr : Nat) (data : Word) (be : BitVec 4) (s : State) :
    Frame [.shadow] s (takeShadow addr data be s) := by simp [frame_iff, Same, takeShadow]

theorem passShadowed_frame (addr : Nat) (w : BusWord) (be : BitVec 4) (s : State) :
    Frame [.store, .shadow] s (passShadowed addr w be s) :=
  ((storeWrite_frame addr w be s).seq (takeShadow_frame addr w.data be _)).mono (by decide)

/-- The interim verdict of a completing burst has gone to the store. -/
def verdictStored (k addr : Nat) (s : State) : State := { s with store := s.store.writeOwn addr (pendingWord s k) }

theorem verdictStored_frame (k addr : Nat) (s : State) : Frame [.store] s (verdictStored k addr s) := by
  simp [frame_iff, Same, verdictStored]

theorem takeCaptureCommit_eq (k addr : Nat) (w : BusWord) (s : State) :
    takeCaptureCommit k addr w s = completeSlot k (takeShadow addr w.data allLanes (verdictStored k addr s)) := rfl

theorem takeCaptureCommit_frame (k addr : Nat) (w : BusWord) (s : State) :
    Frame [.store, .shadow, .capSlots, .capLists] s (takeCaptureCommit k addr w s) :=
  (((verdictStored_frame k addr s).seq (takeShadow_frame addr w.data allLanes _)).seq (completeSlot_frame k _)).mono (by decide)

theorem cancelNotice_frame (win : Window) (s : State) (e : QEntry) :
    Frame [.capSlots, .pollTx, .pollList] s (cancelNotice win s e) := by
  unfold cancelNotice
  split
  · exact (cancelVerdict_frame _ _ s).mono (by decide)
  · split
    · exact (withdrawFrame_frame _ s).mono (by decide)
    · exact .refl _ _
  · exact .refl _ _

/-- The queued entries of the word at `addr` have left the queue. -/
def unqueued (addr : Nat) (s : State) : State :=
  { s with ins := s.ins.withEntries (s.ins.entries.filter fun e => decide (e.addr ≠ addr)) }

theorem unqueued_frame (addr : Nat) (s : State) : Frame [.queue] s (unqueued addr s) := by
  simp [frame_iff, Same, unqueued, Inserts.withEntries]

theorem cancelQueued_cases (win : Window) (addr : Nat) (s : State) :
    cancelQueued win addr s = s ∨
      cancelQueued win addr s =
        (s.ins.entries.filter fun e => decide (e.addr = addr)).foldl (cancelNotice win) (unqueued addr s) := by
  unfold cancelQueued
  dsimp only
  split
  · exact .inl rfl
  · exact .inr rfl

theorem cancelQueued_frame (win : Window) (addr : Nat) (s : State) :
    Frame [.queue, .capSlots, .pollTx, .pollList] s (cancelQueued win addr s) := by
  rcases cancelQueued_cases win addr s with h | h <;> rw [h]
  · exact .refl _ _
  · exact ((unqueued_frame addr s).seq (Frame.foldl (cancelNotice_frame win) _ _)).mono (by decide)

/-- The deeds an access to `addr` is made of, and what keeps `P` through each: `quiet` is whatever changes the bus and the Event Unit
alone; `room` is what `P` needs of a state in which an armed slot's burst completes. -/
structure AccessRules (addr : Nat) (room P : State → Prop) : Prop where
  quiet : ∀ {s u}, P s → Frame [.bus, .ev] s u → P u
  store : ∀ w be {s}, P s → P (storeWrite addr w be s)
  shadow : ∀ data be {s}, P s → P (takeShadow addr data be s)
  unqueue : ∀ {s}, P s → P (unqueued addr s)
  cancel : ∀ win e {s}, P s → P (cancelNotice win s e)
  commit : ∀ {s}, P s → P (commitCommand s)
  position : ∀ {s}, P s → P (commitPosition s)
  arm : ∀ k {s}, P s → P (armSlot k s)
  capture : ∀ k w {s}, P s → room s → P (takeCaptureCommit k addr w s)
  report : ∀ k v {s}, P s → P (takeReport k v s)
  verdict : ∀ k data {s}, P s → P (verdictRead k data s)
  fetch : ∀ k w {s}, P s → P (fetchRead k w s)

/-- A property that an operation keeps is kept by a fold of it. -/
theorem foldl_keeps {α : Type} {P : State → Prop} {f : State → α → State} (hf : ∀ s a, P s → P (f s a)) (l : List α)
    {s : State} (h : P s) : P (l.foldl f s) := by
  induction l generalizing s with
  | nil => exact h
  | cons a l ih => exact ih (hf s a h)

section
variable {addr : Nat} {room P : State → Prop} (hr : AccessRules addr room P)
include hr

theorem cancelQueued_keeps (win : Window) {s : State} (h : P s) : P (cancelQueued win addr s) := by
  rcases cancelQueued_cases win addr s with he | he <;> rw [he]
  · exact h
  · exact foldl_keeps (fun _ e => hr.cancel win e) _ (hr.unqueue h)

theorem passShadowed_keeps (w : BusWord) (be : BitVec 4) {s : State} (h : P s) :
    P (passShadowed addr w be s) :=
  hr.shadow _ _ (hr.store _ _ h)

theorem passWrite_keeps (win : Window) (w : BusWord) (be : BitVec 4) {s : State} (h : P s)
    (hroom : isCaptureCommit s win be = true → room s) : P (passWrite win addr w be s) := by
  have hs := passShadowed_keeps hr w be h
  have hw := hr.store w be h
  cases win with
  | command n =>
    simp only [passWrite]
    split
    · exact hr.commit hs
    · exact hs
  | position n =>
    simp only [passWrite]
    split
    · exact hr.position hs
    · exact hs
  | capture k n =>
    simp only [passWrite]
    split
    · exact hr.capture k w h (hroom ‹_›)
    · split
      · exact hr.arm k hs
      · exact hs
  | tx k n =>
    simp only [passWrite]
    split
    · exact hr.report _ _ hw
    · exact hw
  | response n => exact hw
  | status n => exact hw
  | manifest n => exact hw
  | image n => exact hw
  | record k n => exact hw
  | plain => exact hw

/-- A write is blocked, held, or passes where a burst that it completes has room. -/
theorem takeWriteIn_keeps (win : Window) (w : BusWord) (be : BitVec 4) {s : State} (h : P s)
    (hroom : (isCaptureCommit s win be && judgeFull s) = false → ∀ t, t = cancelQueued win addr (passSnapshot win s) →
      isCaptureCommit t win be = true → room t) : P (takeWriteIn win addr w be s) := by
  have hp := hr.quiet h ((passSnapshot_frame win s).mono (by decide))
  unfold takeWriteIn
  split
  · exact hr.quiet hp (blockWrite_frame addr _ _)
  · split
    · exact hr.quiet (u := { s with path := { s.path with held := some ⟨.write addr w be, .judgeQueue⟩ } }) h
        (by simp [frame_iff, Same])
    · rename_i hc
      exact passWrite_keeps hr win w be (cancelQueued_keeps hr win hp)
        (hroom (by simpa using hc) _ rfl)

theorem answerRead_keeps (a : Nat) (w : BusWord) {s : State} (h : P s) : P (answerRead a w s) :=
  hr.quiet h (by simp [frame_iff, Same, answerRead])

theorem readNotice_keeps (win : Window) (data : Word) {s : State} (h : P s) : P (readNotice win data s) := by
  unfold readNotice
  split
  · exact hr.verdict _ _ h
  · exact hr.fetch _ _ h
  · exact h

theorem takeReadIn_keeps (win : Window) (a : Nat) (d : Disturb) {s : State} (h : P s) :
    P (takeReadIn win a d s) := by
  unfold takeReadIn
  split
  · exact hr.quiet h (by simp [frame_iff, Same, readSnapshot, answerOwn, answerRead])
  · unfold readStatus
    split
    · exact hr.quiet h (by simp [frame_iff, Same, answerOwn, answerRead])
    · exact answerRead_keeps hr _ _ h
  · exact readNotice_keeps hr _ _ (answerRead_keeps hr _ _ (hr.quiet h ((passSnapshot_frame _ s).mono (by decide))))

end

/-- The address of an access. -/
def Access.addr : Access → Nat
  | .write addr _ _ => addr
  | .read addr _ _ => addr

/-- An access that is taken, in its window. -/
theorem takeAccess_keeps {a : Access} {room P : State → Prop} (hr : AccessRules a.addr room P) {s : State} (h : P s)
    (hroom : ∀ win be, (isCaptureCommit s win be && judgeFull s) = false →
      isCaptureCommit (cancelQueued win a.addr (passSnapshot win s)) win be = true →
      room (cancelQueued win a.addr (passSnapshot win s))) : P (takeAccess a s) := by
  cases a with
  | write addr w be => exact takeWriteIn_keeps hr _ w be h (fun hc t ht => ht ▸ hroom _ be hc)
  | read addr be d => exact takeReadIn_keeps hr _ addr d h

/-- The parts an access may change. -/
def accessParts : List Part :=
  [.store, .shadow, .bus, .queue, .capSlots, .capLists, .capCounts, .pollTx, .pollCounts] ++ commandParts

theorem access_frame (a : Access) (s : State) : Frame accessParts s (takeAccess a s) := by
  have hr : AccessRules a.addr (fun _ => True) (Frame accessParts s) :=
    { quiet := fun h hf => h.trans (hf.mono (by decide))
      store := fun _ _ _ h => h.trans ((storeWrite_frame _ _ _ _).mono (by decide))
      shadow := fun _ _ _ h => h.trans ((takeShadow_frame _ _ _ _).mono (by decide))
      unqueue := fun h => h.trans ((unqueued_frame _ _).mono (by decide))
      cancel := fun _ _ _ h => h.trans ((cancelNotice_frame _ _ _).mono (by decide))
      commit := fun h => h.trans ((commitCommand_frame _).mono (by decide))
      position := fun h => h.trans ((commitPosition_frame _).mono (by decide))
      arm := fun _ _ h => h.trans ((armSlot_frame _ _).mono (by decide))
      capture := fun _ _ _ h _ => h.trans ((takeCaptureCommit_frame _ _ _ _).mono (by decide))
      report := fun _ _ _ h => h.trans ((takeReport_frame _ _ _).mono (by decide))
      verdict := fun _ _ _ h => h.trans ((verdictRead_frame _ _ _).mono (by decide))
      fetch := fun _ _ _ h => h.trans ((fetchRead_frame _ _ _).mono (by decide)) }
  exact takeAccess_keeps hr (.refl _ s) fun _ _ _ _ => trivial

theorem held_frame (x : Option Held) (s : State) : Frame [.bus] s { s with path := { s.path with held := x } } := by
  simp [frame_iff, Same]

/-! ### Events -/

/-- What an event can be. -/
inductive EventKind where
  | access | judgement | number | header | entry | scanned | rebuilt | build | join | issue | composition | frame | expiry
  | release | clock | edges | pulseEnd
deriving DecidableEq

/-- The parts an event may change before its writes are given. -/
def EventKind.parts : EventKind → List Part
  | .access => accessParts
  | .judgement => judgeParts
  | .number => [.bus, .ev, .flt, .load, .cmd, .given, .route, .rosters, .capCounts, .pollCounts, .tamperCounts]
  | .header => loadParts
  | .entry => loadParts
  | .scanned => [.bus, .flt] ++ scanParts
  | .rebuilt => rebuildParts
  | .build => [.bus, .ev, .flt, .slots, .up, .cmd, .given]
  | .join => [.queue, .given, .cmd, .ev]
  | .issue => [.store, .queue, .bus, .slots, .load, .route, .dir, .meterStates, .rosters, .ev]
  | .composition => [.requests, .slots, .rosters, .dir, .tamperList, .tamperCounts, .given, .ev]
  | .frame => [.pollTx, .pollList, .pollPos, .pollCounts, .dir, .given]
  | .expiry => [.pollList, .dir, .meterStates, .route, .ev]
  | .release => [.pollList]
  | .clock => [.detector, .clk]
  | .edges => [.detector, .flt, .ev, .pulse]
  | .pulseEnd => [.ev, .pulse]

/-- The work of an event that is taken in `s`, with what holds of `s` when it is. -/
inductive Effect : EventKind → State → State → Prop where
  | arrive (a : Access) {s : State} (hheld : s.path.held = none) : Effect .access s (arrive a s)
  | takeHeld {s : State} (hdue : heldDue s = true) : Effect .access s (takeHeld s)
  | judgeHead {s : State} (hcan : canJudge s = true) : Effect .judgement s (judgeHead s)
  | judgeDeferred {s : State} (hcan : canJudgeDeferred s = true) : Effect .judgement s (judgeDeferred s)
  | takeNumber (d : Disturb) {s : State} (hl : s.route.load = some .number) : Effect .number s (takeNumber d s)
  | headerStep (d : Disturb) {s : State} : Effect .header s (headerStep d s)
  | entryStep (d : Disturb) {s : State} : Effect .entry s (entryStep d s)
  | scanStep (d : Disturb) {s : State} : Effect .scanned s (scanStep d s)
  | rebuildStep (d : Disturb) {s : State} : Effect .rebuilt s (rebuildStep d s)
  | buildStep (d : Disturb) {s : State} (hscan : s.sm.scan = .done) : Effect .build s (buildStep d s)
  | joinHead {s : State} (hdue : joinDue s = true) : Effect .join s (joinHead s)
  | flightEnd {s : State} (hdue : (s.ins.resp0 || (placeFree s && response0First s)) = true) :
      Effect .join s (flightEnd s)
  | issueHead {s : State} (hready : issueReady s = true) : Effect .issue s (issueHead s)
  | compose {s : State} (hcan : canCompose s = true) : Effect .composition s (compose s)
  | beginFrame {s : State} (hcan : canFrame s = true) : Effect .frame s (beginFrame s)
  | expire (i : Nat) {s : State} (hcan : canExpire s i = true) : Effect .expiry s (expire i s)
  | release (i : Nat) {s : State} (hcan : canRelease s i = true) : Effect .release s (release i s)
  | refclkEdge {s : State} : Effect .clock s (refclkEdge s)
  | advanceClock {s : State} : Effect .clock s (advanceClock (refclkSeen s))
  | detectorFull {s : State} : Effect .edges s (detectorFull s)
  | bclkEdge {s : State} : Effect .edges s (bclkEdge s)
  | sleepEdges (levels : List Bool) {s : State} : Effect .edges s (levels.foldl sleepEdge s)
  | pulseEnd {s : State} : Effect .pulseEnd s { s with ev := { s.ev with pulse := ⟨false, 0⟩ } }

theorem arrive_cases (a : Access) (s : State) :
    Frame [.bus] s (arrive a s) ∨ (s.ins.throttle = false ∧ arrive a s = takeAccess a s) := by
  unfold arrive
  split
  · exact .inl (held_frame _ s)
  · rename_i ht
    exact .inr ⟨by simpa using ht, rfl⟩

/-- A held access that is due is taken with the throttle mark clear. -/
theorem takeHeld_due {s : State} (h : heldDue s = true) :
    s.ins.throttle = false ∧
      ∃ x, s.path.held = some x ∧ takeHeld s = takeAccess x.access { s with path := { s.path with held := none } } := by
  unfold heldDue at h
  cases hx : s.path.held with
  | none =>
    rw [hx] at h
    exact absurd h Bool.false_ne_true
  | some x =>
    rw [hx] at h
    have hclear := (Bool.and_eq_true_iff.mp h).1
    exact ⟨by simpa using hclear, x, rfl, by rw [takeHeld, hx]⟩

theorem clockAdvanced_frame (s : State) : Frame [.detector, .clk] s (advanceClock (refclkSeen s)) := by
  simp [frame_iff, Same, advanceClock, refclkSeen]

theorem Effect.frame {k : EventKind} {s u : State} (h : Effect k s u) : Frame k.parts s u := by
  cases h with
  | arrive a hheld =>
    rcases arrive_cases a s with h | ⟨-, h⟩
    · exact h.mono (by decide)
    · rw [h]
      exact access_frame a s
  | takeHeld hdue =>
    obtain ⟨-, x, -, h⟩ := takeHeld_due hdue
    rw [h]
    exact ((held_frame none s).seq (access_frame _ _)).mono (by decide)
  | judgeHead => exact judgeHead_frame s
  | judgeDeferred => exact judgeDeferred_frame s
  | takeNumber d => exact takeNumber_frame d s
  | headerStep d => exact headerStep_frame d s
  | entryStep d => exact entryStep_frame d s
  | scanStep d => exact scanStep_frame d s
  | rebuildStep d => exact rebuildStep_frame d s
  | buildStep d => exact buildStep_frame d s
  | joinHead => exact joinHead_frame s
  | flightEnd => exact flightEnd_frame s
  | issueHead => exact issueHead_frame s
  | compose => exact compose_frame s
  | beginFrame => exact beginFrame_frame s
  | expire i => exact expire_frame i s
  | release i => exact release_frame i s
  | refclkEdge => exact refclkEdge_frame s
  | advanceClock => exact clockAdvanced_frame s
  | detectorFull => exact (detectorFull_frame s).mono (by decide)
  | bclkEdge => exact bclkEdge_frame s
  | sleepEdges levels => exact Frame.foldl sleepEdge_frame levels s
  | pulseEnd => simp [frame_iff, Same, EventKind.parts]

/-- What a command's outcome is: the state as it was, an event's end, or a reset. -/
inductive Outcome (s : State) : State → Prop where
  | none : Outcome s s
  | event {k : EventKind} {u : State} (hr : Awake s) (he : Effect k s u) : Outcome s (finish s u)
  | reset (sel : BitVec 3) : Outcome s (resetPart sel s)
  | assert : Outcome s (assertReset s)

theorem event_outcome {can : Bool} {f : State → State} {s : State} {k : EventKind}
    (he : can = true → Effect k s (f s)) : ∃ t, event can f s = .next t ∧ Outcome s t := by
  refine ⟨_, rfl, ?_⟩
  split
  · rename_i hc
    simp only [Bool.and_eq_true, Bool.not_eq_true'] at hc
    exact .event hc.1 (he hc.2)
  · exact .none

theorem upstream_outcome (a : Access) (s : State) : ∃ t, upstream a s = .next t ∧ Outcome s t :=
  event_outcome fun hc => .arrive a (by simpa using hc)

/-- Every command has an outcome (log entry 20). -/
theorem exec_outcome (c : Instr) (s : State) : ∃ t, exec c s = .next t ∧ Outcome s t := by
  cases c with
  | powerOn sel => exact ⟨_, rfl, .reset sel⟩
  | resetNAsserted => exact ⟨_, rfl, .assert⟩
  | resetNReleased sel =>
    refine ⟨_, rfl, ?_⟩
    split
    · exact .reset sel
    · exact .none
  | throttleHoldEnd => exact event_outcome fun hc => .takeHeld (by simp_all)
  | heldCaptureCommitTaken => exact event_outcome fun hc => .takeHeld (by simp_all)
  | commandFlightEnd => exact event_outcome .flightEnd
  | judgeBurst => exact event_outcome .judgeHead
  | deferredJudge => exact event_outcome .judgeDeferred
  | routeNumberRead d => exact event_outcome fun hc => .takeNumber d (by simp_all)
  | headerRead d => exact event_outcome fun _ => .headerStep d
  | entryRead d => exact event_outcome fun _ => .entryStep d
  | scanRead d => exact event_outcome fun _ => .scanStep d
  | scanRebuildRead d => exact event_outcome fun _ => .rebuildStep d
  | buildRead d => exact event_outcome fun hc => .buildStep d (by simp_all)
  | insertQueueJoin => exact event_outcome .joinHead
  | insertIssue => exact event_outcome .issueHead
  | composition => exact event_outcome .compose
  | frameBegin => exact event_outcome .beginFrame
  | listenExpiry i => exact event_outcome (.expire i)
  | holdoffRelease i => exact event_outcome (.release i)
  | routeClockAdvance => exact event_outcome (f := fun t => advanceClock (refclkSeen t)) fun _ => .advanceClock
  | clockLost => exact event_outcome fun _ => .detectorFull
  | sleepStateChange levels => exact event_outcome (f := fun t => levels.foldl sleepEdge t) fun _ => .sleepEdges levels
  | wakePulseEnd =>
    exact event_outcome (f := fun t => { t with ev := { t.ev with pulse := ⟨false, 0⟩ } }) fun _ => .pulseEnd
  | refclkRisingEdge => exact event_outcome fun _ => .refclkEdge
  | _ => exact upstream_outcome _ s

theorem step_outcome (s : State) :
    ∃ t, step s = .next t ∧ Outcome { s with pending := s.pending.tail } t := by
  unfold step
  split
  · rename_i hp
    have hs : ({ s with pending := s.pending.tail } : State) = s := by rw [hp, List.tail_nil, ← hp]
    rw [hs]
    exact event_outcome fun _ => .bclkEdge
  · rename_i c rest hp
    rw [hp]
    exact exec_outcome c _

/-! ### Invariants -/

/-- `P` speaks of the parts `ps` alone. -/
def About (ps : List Part) (P : State → Prop) : Prop := ∀ s t, (∀ p ∈ ps, Same p s t) → P s → P t

/-- What a frame leaves out is kept. -/
theorem About.keep {ps qs : List Part} {P : State → Prop} {s t : State} (ha : About ps P) (hf : Frame qs s t) (h : P s)
    (hd : ∀ p ∈ ps, p ∉ qs) : P t :=
  ha s t (fun p hp => hf p (hd p hp)) h

/-- A property that every event and both ends of a reset keep is kept by every step (R17). -/
theorem step_keeps {P : State → Prop} (hpending : ∀ s l, P s → P { s with pending := l })
    (hreset : ∀ sel {s}, P s → P (resetPart sel s)) (hassert : ∀ {s}, P s → P (assertReset s))
    (hevent : ∀ {k s u}, P s → Effect k s u → P (finish s u)) {s t : State} (h : P s) (hs : step s = .next t) :
    P t := by
  obtain ⟨t', ht, ho⟩ := step_outcome s
  rw [ht] at hs
  injection hs with hs
  subst hs
  have hp := hpending s s.pending.tail h
  cases ho with
  | none => exact hp
  | event _ he => exact hevent hp he
  | reset sel => exact hreset sel hp
  | assert => exact hassert hp

end Sys2Proof.Machine
end

section
/-! The Insert Queue's bounds (R10, R16, log entry 36). -/
namespace Sys2Proof.Machine

/-- `QueueInv` of an Insert Queue by itself. -/
structure QueueForm (i : Inserts) : Prop where
  places : i.entries.length ≤ 64
  setAt : 48 ≤ i.entries.length → i.throttle = true
  clearAt : i.entries.length ≤ 32 → i.throttle = false
  waiting : i.waits ≠ [] → 63 ≤ i.entries.length

theorem queueInv_iff (s : State) : QueueInv s ↔ QueueForm s.ins :=
  ⟨fun ⟨h1, h2, h3, h4⟩ => ⟨h1, h2, h3, h4⟩, fun ⟨h1, h2, h3, h4⟩ => ⟨h1, h2, h3, h4⟩⟩

theorem throttleAt_set (old : Bool) {n : Nat} (h : 48 ≤ n) : throttleAt old n = true := if_pos h

theorem throttleAt_clear (old : Bool) {n : Nat} (h : n ≤ 32) : throttleAt old n = false := by
  unfold throttleAt
  rw [if_neg (by simp only [Config.throttleSet]; omega)]
  exact if_pos h

/-- The form after the entries have become `es`. -/
theorem QueueForm.withEntries {i : Inserts} {es : List QEntry} (hp : es.length ≤ 64)
    (hw : i.waits ≠ [] → 63 ≤ es.length) : QueueForm (i.withEntries es) :=
  ⟨hp, throttleAt_set _, throttleAt_clear _, hw⟩

theorem QueueForm.congr {i j : Inserts} (h : QueueForm i) (he : j.entries.length = i.entries.length)
    (ht : j.throttle = i.throttle) (hw : j.waits ≠ [] → 63 ≤ i.entries.length) : QueueForm j :=
  ⟨he ▸ h.places, fun hl => ht ▸ h.setAt (he ▸ hl), fun hl => ht ▸ h.clearAt (he ▸ hl), fun hn => he ▸ hw hn⟩

/-- A producer that may wait does not break the form where the queue is nearly full. -/
theorem QueueForm.waits {i : Inserts} (h : QueueForm i) (w : List (Producer × List QWrite))
    (hw : w ≠ [] → 63 ≤ i.entries.length) : QueueForm { i with waits := w } := h.congr rfl rfl hw

theorem QueueForm.push {i : Inserts} (e : QEntry) (hp : i.entries.length < 64)
    (hw : i.waits ≠ [] → 63 ≤ i.entries.length) : QueueForm (i.push e) :=
  QueueForm.withEntries (by simp; omega) fun h => by have := hw h; simp; omega

theorem room_iff (i : Inserts) : i.room = true ↔ i.entries.length < 64 ∧ i.waits = [] := by
  unfold Inserts.room
  rw [Bool.and_eq_true, decide_eq_true_iff, List.isEmpty_iff]
  exact Iff.rfl

theorem QueueForm.pushRoom {i : Inserts} (e : QEntry) (hr : i.room = true) : QueueForm (i.push e) := by
  obtain ⟨hl, hw⟩ := (room_iff i).1 hr
  exact .push e hl fun h => absurd hw h

/-- Without room a producer waits beside a queue of at least 63 entries. -/
theorem QueueForm.wait {i : Inserts} (h : QueueForm i) (p : Producer) (q : QWrite) (hr : ¬i.room = true) :
    QueueForm (i.wait p q) := by
  refine h.congr rfl rfl fun _ => ?_
  by_cases hw : i.waits = []
  · have : ¬i.entries.length < 64 := fun hl => hr ((room_iff i).2 ⟨hl, hw⟩)
    omega
  · exact h.waiting hw

theorem QueueForm.giveWord {i : Inserts} (h : QueueForm i) (p : Producer) (a : Nat) (data : Word) (notify : Bool) :
    QueueForm (i.giveWord p a data notify) := by
  unfold Inserts.giveWord
  split
  · exact .pushRoom _ ‹_›
  · exact h.wait _ _ ‹_›

theorem coalesce_length {a : Nat} {data : Word} {es es' : List QEntry} (h : coalesce a data es = some es') :
    es'.length = es.length := by
  induction es generalizing es' with
  | nil => simp [coalesce] at h
  | cons e es ih =>
    unfold coalesce at h
    split at h
    · rename_i x hx
      injection h with h
      simp [← h, ih hx]
    · split at h
      · injection h with h
        simp [← h]
      · simp at h

theorem QueueForm.giveStatus {i : Inserts} (h : QueueForm i) (sel : BitVec 3) (n : Nat) (v : Word) :
    QueueForm (i.giveStatus sel n v) := by
  unfold Inserts.giveStatus
  split
  · exact h.congr (coalesce_length ‹_›) rfl h.waiting
  · split
    · exact h
    · split
      · exact .pushRoom _ ‹_›
      · exact h.wait _ _ ‹_›

theorem QueueForm.giveResponse0 {i : Inserts} (h : QueueForm i) : QueueForm i.giveResponse0 := by
  unfold Inserts.giveResponse0
  split
  · exact h.congr rfl rfl h.waiting
  · exact h.wait _ _ ‹_›

/-- A fold of an operation that keeps the form keeps it. -/
theorem QueueForm.foldl {α : Type} {f : Inserts → α → Inserts} (hf : ∀ i a, QueueForm i → QueueForm (f i a))
    (l : List α) {i : Inserts} (h : QueueForm i) : QueueForm (l.foldl f i) := by
  induction l generalizing i with
  | nil => exact h
  | cons a l ih => exact ih (hf i a h)

theorem QueueForm.giveResponse (t : State) {i : Inserts} (h : QueueForm i) : QueueForm (giveResponse t i) := by
  unfold Machine.giveResponse
  split
  · exact (QueueForm.foldl (fun j w hj => hj.giveWord _ _ _ _) _ h).giveResponse0
  · exact h

theorem QueueForm.giveOne (t : State) {i : Inserts} (h : QueueForm i) (p : Producer) (q : QWrite) :
    QueueForm (giveOne t i p q) := by
  cases q with
  | word a data notify => exact h.giveWord _ _ _ _
  | status n => exact h.giveStatus _ _ _
  | header k => exact h.giveWord _ _ _ _
  | respond =>
    unfold Machine.giveOne
    dsimp only
    split
    · rename_i hw
      refine h.wait _ _ fun hr => ?_
      simp [Inserts.isWaiting, ((room_iff i).1 hr).2] at hw
    · exact h.giveResponse t
  | response0 => exact h.giveResponse0

theorem QueueForm.drainAcks (t : State) (qs : List QWrite) {i : Inserts} (h : QueueForm i) :
    QueueForm (drainAcks t i qs) := by
  induction i, qs using Machine.drainAcks.induct t with
  | case1 i => exact h.congr rfl rfl h.waiting
  | case2 i k qs hj ih =>
    rw [Machine.drainAcks, if_pos hj]
    exact ih (h.giveOne t _ _)
  | case3 i k qs hj =>
    rw [Machine.drainAcks, if_neg hj]
    exact h.congr rfl rfl h.waiting
  | case4 i q qs hq ih =>
    rw [Machine.drainAcks]
    · exact ih (h.giveOne t _ _)
    · exact hq

theorem QueueForm.releaseBody (t : State) {i : Inserts} (h : QueueForm i) : QueueForm (releaseBody t i) := by
  unfold Machine.releaseBody
  split
  · exact h
  · split
    · exact h
    · exact QueueForm.foldl (fun j q hj => hj.giveOne t _ _) _ (h.congr rfl rfl h.waiting)

theorem QueueForm.releaseLocks (t : State) {i : Inserts} (h : QueueForm i) : QueueForm (releaseLocks t i) := by
  unfold Machine.releaseLocks
  refine QueueForm.foldl (fun j k hj => ?_) _ (h.congr rfl rfl h.waiting)
  split
  · exact hj.giveOne t _ _
  · exact hj.congr rfl rfl hj.waiting

theorem QueueForm.settle (t : State) {i : Inserts} (h : QueueForm i) : QueueForm (settle t i) :=
  ((h.releaseBody t).releaseLocks t).drainAcks t _

/-- The end of an event keeps the queue's form, whatever the event has given. -/
theorem QueueForm.finishInserts (s : State) {t : State} (h : QueueForm t.ins) : QueueForm (finishInserts s t) := by
  refine QueueForm.foldl (fun i w hi => ?_) _ (h.congr rfl rfl h.waiting)
  cases w with
  | some w => exact hi.giveOne t _ _
  | none => exact hi.settle t

/-! ### The events that change the queue themselves -/

theorem queueForm_endFlight {s : State} (hl : s.ins.entries.length < 64)
    (hw : s.ins.waits ≠ [] → 63 ≤ s.ins.entries.length) : QueueForm (endFlight s).ins :=
  (QueueForm.push _ hl hw).congr rfl rfl (QueueForm.push (i := s.ins) _ hl hw).waiting

theorem QueueForm.waitAgain {s : State} (h : QueueForm s.ins) (h63 : 63 ≤ s.ins.entries.length) (p : Producer)
    (qs : List QWrite) : QueueForm (waitAgain p qs s).ins := by
  have hi := h.waits (if (qs.dropWhile QWrite.isRespond).isEmpty then s.ins.waits
    else s.ins.waits ++ [(p, qs.dropWhile QWrite.isRespond)]) fun _ => h63
  unfold Machine.waitAgain
  dsimp only
  split
  · exact hi.giveResponse s
  · exact hi

theorem giveWord_length (i : Inserts) (p : Producer) (a : Nat) (d : Word) (n : Bool) :
    i.entries.length ≤ (i.giveWord p a d n).entries.length := by
  unfold Inserts.giveWord
  split <;> simp [Inserts.push, Inserts.withEntries, Inserts.wait]

theorem giveResponse0_entries (i : Inserts) : i.giveResponse0.entries = i.entries := by
  unfold Inserts.giveResponse0
  split <;> rfl

theorem foldl_length_le {f : Inserts → Nat → Inserts} (hf : ∀ j w, j.entries.length ≤ (f j w).entries.length)
    (l : List Nat) (i : Inserts) : i.entries.length ≤ (l.foldl f i).entries.length := by
  induction l generalizing i with
  | nil => exact le_rfl
  | cons a l ih => exact (hf i a).trans (ih _)

theorem giveResponse_length (t : State) (i : Inserts) : i.entries.length ≤ (giveResponse t i).entries.length := by
  unfold giveResponse
  split
  · rw [giveResponse0_entries]
    exact foldl_length_le (fun j w => giveWord_length j _ _ _ _) _ i
  · exact le_rfl

/-- The write whose turn it is takes the place that is free. -/
theorem queueForm_joinWrite (p : Producer) (q : QWrite) {s : State} (h : QueueForm s.ins)
    (h63 : s.ins.entries.length = 63) :
    QueueForm (joinWrite p q s).ins ∧ 63 ≤ (joinWrite p q s).ins.entries.length := by
  have hl : s.ins.entries.length < 64 := by omega
  have hw : s.ins.waits ≠ [] → 63 ≤ s.ins.entries.length := fun _ => by omega
  have h64 : ∀ e : QEntry, 63 ≤ (s.ins.push e).entries.length := fun e => by
    simp [Inserts.push, Inserts.withEntries, h63]
  cases q with
  | word a d n => exact ⟨.push _ hl hw, h64 _⟩
  | status n => exact ⟨.push _ hl hw, h64 _⟩
  | header k => exact ⟨.push _ hl hw, h64 _⟩
  | respond => exact ⟨h.giveResponse s, h63 ▸ giveResponse_length s s.ins⟩
  | response0 => exact ⟨queueForm_endFlight hl hw, h64 _⟩

theorem queueForm_joinHead {s : State} (h : QueueForm s.ins) (hl : s.ins.entries.length < 64) :
    QueueForm (joinHead s).ins := by
  unfold joinHead
  split
  · rename_i p q qs rest hw
    have h63 : s.ins.entries.length = 63 := by
      have := h.waiting (by simp [hw])
      omega
    have hr : QueueForm ({ s with ins := { s.ins with waits := rest } } : State).ins :=
      h.waits rest fun _ => by omega
    obtain ⟨hj, hj63⟩ := queueForm_joinWrite p q hr h63
    exact hj.waitAgain hj63 p qs
  · rename_i p rest hw
    exact h.waits rest fun _ => h.waiting (by simp [hw])
  · exact h

theorem queueForm_flightEnd {s : State} (h : QueueForm s.ins)
    (hd : (s.ins.resp0 || (placeFree s && response0First s)) = true) : QueueForm (flightEnd s).ins := by
  unfold flightEnd
  split
  · split
    · rename_i hr
      obtain ⟨hl, hw⟩ := (room_iff _).1 hr
      exact queueForm_endFlight hl fun hn => absurd hw hn
    · rename_i hr
      exact QueueForm.wait (i := { s.ins with resp0 := false }) (h.congr rfl rfl h.waiting) _ _ hr
  · rename_i hr
    refine queueForm_joinHead h ?_
    simp only [Bool.not_eq_true] at hr
    rw [hr, Bool.false_or, Bool.and_eq_true] at hd
    exact of_decide_eq_true hd.1

/-- An issue leaves the queue one entry shorter; a producer waits only where it was full (log entry 36). -/
theorem queueForm_issueHead {s : State} (h : QueueForm s.ins) (hr : issueReady s = true) :
    QueueForm (issueHead s).ins := by
  have hjoin : joinDue s = false := by
    simp only [issueReady, Bool.and_eq_true, Bool.not_eq_true'] at hr
    exact hr.1.1.2
  have key : ∀ e es, s.ins.entries = e :: es → QueueForm (issued e es s).ins := by
    intro e es he
    have hlen : s.ins.entries.length = es.length + 1 := by simp [he]
    have hp := h.places
    refine QueueForm.withEntries (by omega) fun hw => ?_
    have : ¬(s.ins.entries.length < 64 ∧ s.ins.waits ≠ []) := fun hd => by simp [joinDue_eq_true_iff.2 hd] at hjoin
    have : ¬s.ins.entries.length < 64 := fun hl => this ⟨hl, hw⟩
    omega
  rcases issueHead_cases s with ⟨-, he⟩ | ⟨e, es, hes, he | ⟨k, he⟩⟩ <;> rw [he]
  · exact h
  · exact key e es hes
  · obtain ⟨h1, h2, h3⟩ := (headerIssued_frame k (issued e es s)) .queue (by decide)
    exact (key e es hes).congr (by rw [h1]) h2 fun hn => (key e es hes).waiting (h3 ▸ hn)

/-- While the throttle mark is clear no producer waits. -/
theorem QueueForm.waits_nil {i : Inserts} (h : QueueForm i) (ht : i.throttle = false) : i.waits = [] := by
  by_contra hw
  have := h.setAt (by have := h.waiting hw; omega)
  simp [ht] at this

theorem about_queueForm : About [.queue] fun s => QueueForm s.ins := by
  intro s t hs h
  obtain ⟨h1, h2, h3⟩ := hs .queue (by decide)
  exact h.congr (by rw [h1]) h2 fun hn => h.waiting (h3 ▸ hn)

theorem about_noWaits : About [.queue] fun s => QueueForm s.ins ∧ s.ins.waits = [] := by
  intro s t hs h
  exact ⟨about_queueForm s t hs h.1, (hs .queue (by decide)).2.2.trans h.2⟩

/-- An access, taken where no producer waits, leaves it so: it only removes entries. -/
theorem queueForm_access (a : Access) {s : State} (h : QueueForm s.ins) (ht : s.ins.throttle = false) :
    QueueForm (takeAccess a s).ins := by
  have hr : AccessRules a.addr (fun _ => True) fun s => QueueForm s.ins ∧ s.ins.waits = [] :=
    { quiet := fun h hf => about_noWaits.keep hf h (by decide)
      store := fun _ _ _ h => about_noWaits.keep (storeWrite_frame _ _ _ _) h (by decide)
      shadow := fun _ _ _ h => about_noWaits.keep (takeShadow_frame _ _ _ _) h (by decide)
      unqueue := fun h =>
        ⟨QueueForm.withEntries ((List.length_filter_le _ _).trans h.1.places) fun hn => absurd h.2 hn, h.2⟩
      cancel := fun _ _ _ h => about_noWaits.keep (cancelNotice_frame _ _ _) h (by decide)
      commit := fun h => about_noWaits.keep (commitCommand_frame _) h (by decide)
      position := fun h => about_noWaits.keep (commitPosition_frame _) h (by decide)
      arm := fun _ _ h => about_noWaits.keep (armSlot_frame _ _) h (by decide)
      capture := fun _ _ _ h _ => about_noWaits.keep (takeCaptureCommit_frame _ _ _ _) h (by decide)
      report := fun _ _ _ h => about_noWaits.keep (takeReport_frame _ _ _) h (by decide)
      verdict := fun _ _ _ h => about_noWaits.keep (verdictRead_frame _ _ _) h (by decide)
      fetch := fun _ _ _ h => about_noWaits.keep (fetchRead_frame _ _ _) h (by decide) }
  exact (takeAccess_keeps hr ⟨h, h.waits_nil ht⟩ fun _ _ _ _ => trivial).1

theorem queueForm_effect {k : EventKind} {s u : State} (h : QueueForm s.ins) (he : Effect k s u) : QueueForm u.ins := by
  have hf := he.frame
  cases he with
  | arrive a =>
    rcases arrive_cases a s with ha | ⟨ht, ha⟩
    · exact about_queueForm.keep ha h (by decide)
    · rw [ha]
      exact queueForm_access a h ht
  | takeHeld hdue =>
    obtain ⟨ht, x, -, ha⟩ := takeHeld_due hdue
    rw [ha]
    exact queueForm_access x.access h ht
  | joinHead hdue => exact queueForm_joinHead h (joinDue_eq_true_iff.1 hdue).1
  | flightEnd hdue => exact queueForm_flightEnd h hdue
  | issueHead hr => exact queueForm_issueHead h hr
  | _ => exact about_queueForm.keep hf h (by decide)

theorem queueForm_reset (sel : BitVec 3) (s : State) : QueueForm (resetPart sel s).ins := by
  have hlen : (resetPart sel s).ins.entries.length = 32 := by
    simp [resetPart, State.afterReset, statusResetEntries]
  exact ⟨by omega, fun h => by omega, fun _ => rfl, fun h => absurd rfl h⟩

/-- Settles O10: each write that an event gives joins a queue with room or waits beside a full one, an access is taken only where
no producer waits, and an issue only where none waits beside a free place. -/
theorem stepKeepsTheQueueBounds : Obligations.StepKeepsTheQueueBounds := by
  constructor
  · intro s t h hs
    rw [queueInv_iff] at h ⊢
    exact step_keeps (P := fun s => QueueForm s.ins) (fun _ _ h => h)
      (fun sel _ _ => queueForm_reset sel _)
      (fun _ => ⟨Nat.zero_le _, fun h => absurd h (by simp [assertReset]), fun _ => rfl, fun h => absurd rfl h⟩)
      (fun h he => (queueForm_effect h he).finishInserts _) h hs
  · intro s h ht
    exact ((queueInv_iff s).1 h).waits_nil ht

end Sys2Proof.Machine
end

section
/-! What every command keeps: the waiting commands (log entry 20), and every byte but those of its address. -/
namespace Sys2Proof.Machine

theorem EventKind.pending_kept (k : EventKind) : Part.pending ∉ k.parts := by cases k <;> decide

theorem Outcome.pending {s t : State} (h : Outcome s t) : t.pending = s.pending := by
  cases h with
  | none => rfl
  | event _ he => exact he.frame .pending (EventKind.pending_kept _)
  | reset sel => rfl
  | assert => rfl

/-- Settles O3: each row of the table is an event, an access or a reset, and none of them names the waiting commands. -/
theorem everyCommandHasANextState : Obligations.EveryCommandHasANextState := by
  intro c s
  obtain ⟨t, ht, ho⟩ := exec_outcome c s
  exact ⟨t, ht, ho.pending⟩

/-- Settles O1: the two sides are one by the definition of a step. -/
theorem stepRunsTheFrontCommand : Obligations.StepRunsTheFrontCommand := fun _ _ _ => rfl

/-! ### What an event's end leaves in the outbox -/

@[simp] theorem withEntries_outbox (i : Inserts) (es : List QEntry) : (i.withEntries es).outbox = i.outbox := rfl
@[simp] theorem push_outbox (i : Inserts) (e : QEntry) : (i.push e).outbox = i.outbox := rfl
@[simp] theorem wait_outbox (i : Inserts) (p : Producer) (q : QWrite) : (i.wait p q).outbox = i.outbox := rfl

@[simp] theorem giveWord_outbox (i : Inserts) (p : Producer) (a : Nat) (d : Word) (n : Bool) :
    (i.giveWord p a d n).outbox = i.outbox := by
  unfold Inserts.giveWord
  split <;> simp

@[simp] theorem giveStatus_outbox (i : Inserts) (sel : BitVec 3) (n : Nat) (v : Word) :
    (i.giveStatus sel n v).outbox = i.outbox := by
  unfold Inserts.giveStatus
  split
  · rfl
  · split
    · rfl
    · split <;> simp

@[simp] theorem giveResponse0_outbox (i : Inserts) : i.giveResponse0.outbox = i.outbox := by
  unfold Inserts.giveResponse0
  split <;> simp

/-- A fold of what leaves the outbox alone leaves it alone. -/
theorem foldl_outbox {α : Type} {f : Inserts → α → Inserts} (hf : ∀ i a, (f i a).outbox = i.outbox) (l : List α)
    (i : Inserts) : (l.foldl f i).outbox = i.outbox := by
  induction l generalizing i with
  | nil => rfl
  | cons a l ih => exact (ih _).trans (hf i a)

@[simp] theorem giveResponse_outbox (t : State) (i : Inserts) : (giveResponse t i).outbox = i.outbox := by
  unfold giveResponse
  split
  · rw [giveResponse0_outbox]
    exact foldl_outbox (fun j w => giveWord_outbox j _ _ _ _) _ i
  · rfl

@[simp] theorem giveOne_outbox (t : State) (i : Inserts) (p : Producer) (q : QWrite) :
    (giveOne t i p q).outbox = i.outbox := by
  cases q with
  | word a d n => exact giveWord_outbox _ _ _ _ _
  | status n => exact giveStatus_outbox _ _ _ _
  | header k => exact giveWord_outbox _ _ _ _ _
  | respond =>
    unfold giveOne
    dsimp only
    split <;> simp
  | response0 => exact giveResponse0_outbox _

theorem drainAcks_outbox (t : State) (qs : List QWrite) (i : Inserts) : (drainAcks t i qs).outbox = i.outbox := by
  induction i, qs using drainAcks.induct t with
  | case1 i => rfl
  | case2 i k qs hj ih => rw [drainAcks, if_pos hj, ih, giveOne_outbox]
  | case3 i k qs hj => rw [drainAcks, if_neg hj]
  | case4 i q qs hq ih =>
    rw [drainAcks, ih, giveOne_outbox]
    exact hq

theorem settle_outbox (t : State) (i : Inserts) : (settle t i).outbox = i.outbox := by
  have hb : ∀ i : Inserts, (releaseBody t i).outbox = i.outbox := by
    intro i
    unfold releaseBody
    split
    · rfl
    · split
      · rfl
      · exact foldl_outbox (fun j q => giveOne_outbox t j _ q) _ _
  have hl : ∀ i : Inserts, (releaseLocks t i).outbox = i.outbox := by
    intro i
    refine foldl_outbox (fun j k => ?_) _ _
    split
    · exact giveOne_outbox _ _ _ _
    · rfl
  exact (drainAcks_outbox t _ _).trans ((hl _).trans (hb i))

/-- Settles O4: an event's end is a record update of `ins`; the outbox is emptied first, and no giving fills it again. -/
theorem finishChangesOnlyTheInsertQueue : Obligations.FinishChangesOnlyTheInsertQueue := by
  intro s t
  refine ⟨finishInserts s t, rfl, foldl_outbox (fun i w => ?_) _ _⟩
  cases w with
  | some w => exact giveOne_outbox t i w.1 w.2
  | none => exact settle_outbox t i

/-! ### The store -/

theorem byteKept_of_store {s t : State} (h : t.store = s.store) (x : Nat) : ByteKept s t x := by
  unfold ByteKept
  rw [h]
  exact ⟨rfl, rfl⟩

/-- An access stores at its own word only. -/
theorem takeAccess_store (a : Access) (s : State) {x : Nat} (hx : x < a.addr ∨ a.addr + 4 ≤ x) :
    ByteKept s (takeAccess a s) x := by
  have ha : About [.store] fun t => ByteKept s t x := by
    intro t u hs h
    have hu : u.store = t.store := hs .store (by decide)
    unfold ByteKept at *
    rwa [hu]
  have hw : ∀ (w : BusWord) (be : BitVec 4) {t u : State}, u.store = t.store.write a.addr w be → ByteKept s t x →
      ByteKept s u x := by
    intro w be t u hu h
    unfold ByteKept at *
    rw [hu, (Store.write_other t.store w be hx).1, (Store.write_other t.store w be hx).2]
    exact h
  have hr : AccessRules a.addr (fun _ => True) fun t => ByteKept s t x :=
    { quiet := fun h hf => ha.keep hf h (by decide)
      store := fun w be _ h => hw w be rfl h
      shadow := fun _ _ _ h => ha.keep (takeShadow_frame _ _ _ _) h (by decide)
      unqueue := fun h => ha.keep (unqueued_frame _ _) h (by decide)
      cancel := fun _ _ _ h => ha.keep (cancelNotice_frame _ _ _) h (by decide)
      commit := fun h => ha.keep (commitCommand_frame _) h (by decide)
      position := fun h => ha.keep (commitPosition_frame _) h (by decide)
      arm := fun _ _ h => ha.keep (armSlot_frame _ _) h (by decide)
      capture := fun k w t h _ => hw ⟨pendingWord t k, evenParity (pendingWord t k)⟩ allLanes rfl h
      report := fun _ _ _ h => ha.keep (takeReport_frame _ _ _) h (by decide)
      verdict := fun _ _ _ h => ha.keep (verdictRead_frame _ _ _) h (by decide)
      fetch := fun _ _ _ h => ha.keep (fetchRead_frame _ _ _) h (by decide) }
  exact takeAccess_keeps hr (byteKept_of_store rfl x) fun _ _ _ _ => trivial

theorem takeReadIn_store (win : Window) (addr : Nat) (d : Disturb) (s : State) :
    (takeReadIn win addr d s).store = s.store := by
  unfold takeReadIn
  split
  · rfl
  · unfold readStatus
    split <;> rfl
  · unfold readNotice
    split
    · exact verdictRead_frame _ _ _ .store (by decide)
    · exact fetchRead_frame _ _ _ .store (by decide)
    · rfl

/-- The word an access may store to. -/
def Access.target : Access → Option Nat
  | .write addr _ _ => some addr
  | .read _ _ _ => none

theorem takeAccess_outside (a : Access) (s : State) {x : Nat} (hx : ∀ b, a.target = some b → x < b ∨ b + 4 ≤ x) :
    ByteKept s (takeAccess a s) x := by
  cases a with
  | write addr w be => exact takeAccess_store _ s (hx addr rfl)
  | read addr be d => exact byteKept_of_store (takeReadIn_store _ addr d s) x

theorem event_byteKept {can : Bool} {f : State → State} {s t : State} {x : Nat} (h : event can f s = .next t)
    (hf : can = true → ByteKept s (f s) x) : ByteKept s t x := by
  unfold event at h
  injection h with h
  subst h
  split
  · exact hf (by simp_all)
  · exact ⟨rfl, rfl⟩

theorem upstream_byteKept {a : Access} {s t : State} {x : Nat} (h : upstream a s = .next t)
    (hx : ∀ b, a.target = some b → x < b ∨ b + 4 ≤ x) : ByteKept s t x := by
  refine event_byteKept h fun _ => ?_
  rcases arrive_cases a s with ha | ⟨-, ha⟩
  · exact byteKept_of_store (ha .store (by decide)) x
  · rw [ha]
    exact takeAccess_outside a s hx

/-- A held access that is taken stores at its own word only. -/
theorem takeHeld_byteKept {s t : State} {x : Nat} {can : Bool} (h : event (can && heldDue s) takeHeld s = .next t)
    (hx : ∀ b, heldTarget s = some b → x < b ∨ b + 4 ≤ x) : ByteKept s t x := by
  refine event_byteKept h fun hc => ?_
  obtain ⟨-, y, hy, he⟩ := takeHeld_due (Bool.and_eq_true_iff.1 hc).2
  rw [he]
  refine takeAccess_outside y.access _ fun b hb => hx b ?_
  obtain ⟨a, r⟩ := y
  cases a with
  | write addr w be => simpa [heldTarget, hy, Access.target] using hb
  | read addr be d => cases hb

theorem issueHead_byteKept (s : State) {x : Nat}
    (hx : ∀ b, (s.ins.entries.head?.map fun e => e.addr) = some b → x < b ∨ b + 4 ≤ x) : ByteKept s (issueHead s) x := by
  have key : ∀ e es, s.ins.entries = e :: es → ByteKept s (issued e es s) x := fun e es he =>
    Store.write_other s.store ⟨e.data, evenParity e.data⟩ allLanes (hx e.addr (by rw [he]; rfl))
  rcases issueHead_cases s with ⟨-, h⟩ | ⟨e, es, hes, h | ⟨k, h⟩⟩ <;> rw [h]
  · exact ⟨rfl, rfl⟩
  · exact key e es hes
  · have hst := headerIssued_frame k (issued e es s) .store (by decide)
    have hk := key e es hes
    unfold ByteKept at hk ⊢
    rwa [hst]

/-- Commands that are neither accesses nor INSERT_ISSUE leave the store alone. -/
theorem event_store {can : Bool} {f : State → State} {s t : State} {ps : List Part} (x : Nat)
    (h : event can f s = .next t) (hf : Frame ps s (f s)) (hp : Part.store ∉ ps) : ByteKept s t x :=
  event_byteKept h fun _ => byteKept_of_store (hf .store hp) x

/-- Settles O8: an access stores at its own address, an issue at its entry's, and no other event names the store. -/
theorem commandsStoreOnlyAtTheirAddress : Obligations.CommandsStoreOnlyAtTheirAddress := by
  intro c s t h x hx
  cases c with
  | powerOn sel => injection h with h; subst h; exact ⟨rfl, rfl⟩
  | resetNAsserted => injection h with h; subst h; exact ⟨rfl, rfl⟩
  | resetNReleased sel =>
    injection h with h
    subst h
    split
    · exact ⟨rfl, rfl⟩
    · exact ⟨rfl, rfl⟩
  | throttleHoldEnd => exact takeHeld_byteKept h hx
  | heldCaptureCommitTaken => exact takeHeld_byteKept h hx
  | commandFlightEnd => exact event_store x h (flightEnd_frame s) (by decide)
  | judgeBurst => exact event_store x h (judgeHead_frame s) (by decide)
  | deferredJudge => exact event_store x h (judgeDeferred_frame s) (by decide)
  | routeNumberRead d => exact event_store x h (takeNumber_frame d s) (by decide)
  | headerRead d => exact event_store x h (headerStep_frame d s) (by decide)
  | entryRead d => exact event_store x h (entryStep_frame d s) (by decide)
  | scanRead d => exact event_store x h (scanStep_frame d s) (by decide)
  | scanRebuildRead d => exact event_store x h (rebuildStep_frame d s) (by decide)
  | buildRead d => exact event_store x h (buildStep_frame d s) (by decide)
  | insertQueueJoin => exact event_store x h (joinHead_frame s) (by decide)
  | insertIssue => exact event_byteKept h fun _ => issueHead_byteKept s hx
  | composition => exact event_store x h (compose_frame s) (by decide)
  | frameBegin => exact event_store x h (beginFrame_frame s) (by decide)
  | listenExpiry i => exact event_store x h (expire_frame i s) (by decide)
  | holdoffRelease i => exact event_store x h (release_frame i s) (by decide)
  | routeClockAdvance => exact event_store (f := fun t => advanceClock (refclkSeen t)) x h (clockAdvanced_frame s) (by decide)
  | clockLost => exact event_store x h (detectorFull_frame s) (by decide)
  | sleepStateChange levels =>
    exact event_store (f := fun t => levels.foldl sleepEdge t) x h (Frame.foldl sleepEdge_frame levels s) (by decide)
  | wakePulseEnd =>
    exact event_byteKept (f := fun t => { t with ev := { t.ev with pulse := ⟨false, 0⟩ } }) h fun _ => ⟨rfl, rfl⟩
  | refclkRisingEdge => exact event_store x h (refclkEdge_frame s) (by decide)
  | statusSnapshotRead be => exact upstream_byteKept h fun _ hb => nomatch hb
  | statusWordRead n be d => exact upstream_byteKept h fun _ hb => nomatch hb
  | captureVerdictRead k be d => exact upstream_byteKept h fun _ hb => nomatch hb
  | readingStoreRead k n be d => exact upstream_byteKept h fun _ hb => nomatch hb
  | upstreamRead addr be d => exact upstream_byteKept h fun _ hb => nomatch hb
  | _ => exact upstream_byteKept h hx

end Sys2Proof.Machine
end

section
/-! What a judgement is made of, and the bounds of the capture lists, the Tamper List, the rosters and the counters. -/
namespace Sys2Proof.Machine

/-! ### Judgements -/

theorem modMeter_states {i : Nat} {f : Meter → Meter} (s : State) (hf : ∀ m, (f m).state = m.state) :
    (modMeter i f s).dir.map Meter.state = s.dir.map Meter.state :=
  modMeter_frame s hf .meterStates (by decide)

/-- The parts the small deeds of a judgement change. -/
def judgeQuiet : List Part := [.dir, .given, .capCounts, .requests]

/-- The deeds a judgement is made of, and what keeps `P` through each.  `fixed` is R78 with R104: the meter is READ and its
Poll List entry is gone; `heard` is R79; `defer` is R46, in LOADING alone. -/
structure JudgeRules (P : State → Prop) : Prop where
  quiet : ∀ {s u}, P s → Frame judgeQuiet s u → P u
  verdict : ∀ b code flags index {s}, P s → P (finalVerdict b code flags index s)
  causes : ∀ i set {s}, P s → P (addCauses i set s)
  fixed : ∀ i c matched {s}, P s → P (endPoll i matched (fixReading i c matched s))
  heard : ∀ i old {s}, (s.dir.map Meter.state)[i]? = some old → P s → P (setMeterState i (heardState old) s)
  defer : ∀ b {s}, P s → P (deferBurst b s)

section
variable {P : State → Prop} (hr : JudgeRules P)
include hr

theorem modMeter_keeps {i : Nat} {f : Meter → Meter} {s : State} (h : P s)
    (hf : ∀ m, (f m).state = m.state) : P (modMeter i f s) :=
  hr.quiet h ((modMeter_frame s hf).mono (by decide))

theorem confirm_keeps (i : Nat) (c : Confirmed) (matched : Bool) (causes : Byte) {s : State} (h : P s) :
    P (confirm i c matched causes s) :=
  hr.quiet (hr.causes i causes (hr.fixed i c matched h)) ((requestReading_frame i _).mono (by decide))

theorem castVote_keeps (b : Burst) (i : Nat) (m : Meter) (flags : Word) {s : State} (h : P s)
    (hm : (s.dir.map Meter.state)[i]? = some m.state) : P (castVote b i m flags s) := by
  unfold castVote
  dsimp only
  split
  · exact hr.verdict _ _ _ _ (confirm_keeps hr _ _ _ _ (modMeter_keeps hr h (by intro _; rfl)))
  · split
    · exact hr.verdict _ _ _ _ (confirm_keeps hr _ _ _ _ (modMeter_keeps hr h (by intro _; rfl)))
    · refine hr.verdict _ _ _ _ (hr.heard i m.state ?_ (modMeter_keeps hr h (by intro _; rfl)))
      rw [modMeter_states, hm]
      intro _
      rfl

theorem judgeRepeat_keeps (b : Burst) (i : Nat) (c : Confirmed) (flags : Word) {s : State} (h : P s) :
    P (judgeRepeat b i c flags s) := by
  unfold judgeRepeat
  dsimp only
  split
  · exact hr.verdict _ _ _ _ (modMeter_keeps hr (modMeter_keeps hr h (by intro _; rfl)) (by intro _; rfl))
  · exact hr.verdict _ _ _ _ (hr.causes _ _ (modMeter_keeps hr h (by intro _; rfl)))

theorem judgeOrdinary_keeps (b : Burst) (i : Nat) (m : Meter) (flags : Word) {s : State} (h : P s)
    (hm : (s.dir.map Meter.state)[i]? = some m.state) : P (judgeOrdinary b i m flags s) := by
  unfold judgeOrdinary
  split
  · exact hr.verdict _ _ _ _ h
  · split
    · split
      · exact judgeRepeat_keeps hr _ _ _ _ h
      · exact h
    · exact castVote_keeps hr _ _ _ _ h hm

theorem acceptBurst_keeps (b : Burst) (i : Nat) (m : Meter) {s : State} (h : P s) (hm : s.dir[i]? = some m) :
    P (acceptBurst b i m s) := by
  have key : ∀ f, P (addCauses i f (modMeter i (heardMeter b) s)) ∧
      ((addCauses i f (modMeter i (heardMeter b) s)).dir.map Meter.state)[i]? = some m.state := by
    intro f
    refine ⟨hr.causes _ _ (modMeter_keeps hr h (by intro _; rfl)), ?_⟩
    have hf : Frame [.dir, .requests, .tamperList, .tamperCounts, .ev, .slots, .given] s
        (addCauses i f (modMeter i (heardMeter b) s)) := ((modMeter_frame s (by intro _; rfl)).seq (addCauses_frame _ _ _)).mono (by decide)
    rw [hf .meterStates (by decide), List.getElem?_map, hm]
    rfl
  unfold acceptBurst
  dsimp only
  split
  · split
    · exact hr.verdict _ _ _ _ (confirm_keeps hr _ _ _ _ (modMeter_keeps hr (key _).1 (by intro _; rfl)))
    · exact judgeOrdinary_keeps hr _ _ _ _ (key _).1 (key _).2
  · exact judgeOrdinary_keeps hr _ _ _ _ (key _).1 (key _).2

theorem judgeMeter_keeps (b : Burst) {s : State} (h : P s) : P (judgeMeter b s) := by
  unfold judgeMeter
  split
  · split
    · exact acceptBurst_keeps hr _ _ _ h ‹_›
    · exact h
  · exact hr.verdict _ _ _ _ (hr.quiet h (Frame.mono (ps := [.capCounts]) (by simp [frame_iff, Same]) (by decide)))

theorem judgeOpen_keeps (b : Burst) {s : State} (h : P s) : P (judgeOpen b s) := by
  have hj : P { s with cap := { s.cap with routeJudged := satInc s.cap.routeJudged } } :=
    hr.quiet h (Frame.mono (ps := [.capCounts]) (by simp [frame_iff, Same]) (by decide))
  unfold judgeOpen
  dsimp only
  split
  · exact hr.verdict _ _ _ _ hj
  · split
    · exact hr.verdict _ _ _ _ hj
    · split
      · exact hr.verdict _ _ _ _ hj
      · exact judgeMeter_keeps hr b hj

/-- A burst is judged in any route state. -/
theorem judge_keeps (b : Burst) {s : State} (h : P s) : P (judge b s) := by
  unfold judge
  split
  · exact hr.verdict _ _ _ _ h
  · exact hr.verdict _ _ _ _ h
  · exact judgeOpen_keeps hr b h
  · exact hr.defer b h

end

/-- A judgement, for a property that the two burst lists leave alone. -/
theorem judgement_keeps {ps : List Part} {P : State → Prop} (ha : About ps P) (hr : JudgeRules P) {s u : State} (h : P s)
    (he : Effect .judgement s u) (hd : ∀ p ∈ ps, p ∉ [Part.capLists]) : P u := by
  have hcap : ∀ c : Capture, Frame [.capLists] s { s with cap := c } → P { s with cap := c } :=
    fun c hf => ha.keep hf h hd
  cases he with
  | judgeHead =>
    unfold judgeHead
    split
    · exact h
    · exact judge_keeps hr _ (hcap _ (by simp [frame_iff, Same]))
  | judgeDeferred =>
    unfold judgeDeferred
    split
    · exact h
    · exact judge_keeps hr _ (hcap _ (by simp [frame_iff, Same]))

/-! ### The capture lists (R62, R46) -/

theorem captureInv_about : About [.capSlots, .capLists] CaptureInv := by
  intro s t hs ⟨h1, h2, h3⟩
  have hc : t.cap.slots = s.cap.slots := hs .capSlots (by decide)
  obtain ⟨hj, hd⟩ := hs .capLists (by decide)
  exact ⟨hc ▸ h1, hj ▸ h2, hd ▸ h3⟩

theorem captureInv_modCap (k : Nat) (f : CapSlot → CapSlot) {s : State} (h : CaptureInv s) :
    CaptureInv (modCap k f s) :=
  ⟨canonical_setD _ _ _ _ h.1, h.2.1, h.2.2⟩

theorem captureInv_cancelNotice (win : Window) (e : QEntry) {s : State} (h : CaptureInv s) :
    CaptureInv (cancelNotice win s e) := by
  unfold cancelNotice
  split
  · unfold cancelVerdict
    split
    · exact captureInv_modCap _ _ h
    · exact h
  · split
    · exact captureInv_about.keep (withdrawFrame_frame _ s) h (by decide)
    · exact h
  · exact h

theorem captureInv_arm (k : Nat) {s : State} (h : CaptureInv s) : CaptureInv (armSlot k s) := by
  have ho : CaptureInv (takeOverrun k s) := by
    obtain ⟨h1, h2, h3⟩ := h
    exact ⟨h1, by simpa [takeOverrun] using h2, by simpa [takeOverrun] using h3⟩
  unfold armSlot
  dsimp only
  split
  · exact captureInv_modCap _ _ ho
  · exact captureInv_modCap _ _ h

theorem captureInv_complete (k addr : Nat) (w : BusWord) {s : State} (h : CaptureInv s)
    (hr : s.cap.judgeQ.length < 16) : CaptureInv (takeCaptureCommit k addr w s) := by
  obtain ⟨h1, h2, h3⟩ := h
  refine ⟨canonical_setD _ _ _ _ h1, ?_, h3⟩
  show (s.cap.judgeQ ++ [_]).length ≤ 16
  simp
  omega

theorem captureInv_verdictRead (k : Nat) (data : Word) {s : State} (h : CaptureInv s) :
    CaptureInv (verdictRead k data s) := by
  unfold verdictRead
  split
  · exact captureInv_modCap _ _ h
  · exact h

@[simp] theorem capSlot_modCap_same (k : Nat) (f : CapSlot → CapSlot) {s : State}
    (h : canonical CapSlot.clear s.cap.slots = true) : (modCap k f s).capSlot k = f (s.capSlot k) :=
  getD_setD_same _ _ _ _ h

@[simp] theorem capSlot_modCap_other {k j : Nat} (f : CapSlot → CapSlot) (s : State) (h : j ≠ k) :
    (modCap k f s).capSlot j = s.capSlot j :=
  getD_setD_other _ _ _ h

/-- A cancelled verdict leaves the armed marks and the Judge Queue. -/
theorem cancelNotice_armed (win : Window) (e : QEntry) {s : State} (h : CaptureInv s) (j : Nat) :
    ((cancelNotice win s e).capSlot j).armed = (s.capSlot j).armed ∧
      (cancelNotice win s e).cap.judgeQ = s.cap.judgeQ := by
  unfold cancelNotice
  split
  · rename_i k
    unfold cancelVerdict
    split
    · by_cases hj : j = k
      · subst hj
        rw [capSlot_modCap_same _ _ h.1]
        exact ⟨rfl, rfl⟩
      · rw [capSlot_modCap_other _ _ hj]
        exact ⟨rfl, rfl⟩
    · exact ⟨rfl, rfl⟩
  · split
    · have hf := withdrawFrame_frame ‹Nat› s
      refine ⟨?_, (hf .capLists (by decide)).1⟩
      unfold State.capSlot
      rw [hf .capSlots (by decide)]
    · exact ⟨rfl, rfl⟩
  · exact ⟨rfl, rfl⟩

/-- The slot of a commit is armed after the cancelled entries have gone exactly when it was before. -/
theorem cancelQueued_capture (win : Window) (addr : Nat) {s : State} (h : CaptureInv s) (be : BitVec 4) :
    isCaptureCommit (cancelQueued win addr s) win be = isCaptureCommit s win be ∧
      (cancelQueued win addr s).cap.judgeQ = s.cap.judgeQ := by
  have key : ∀ (l : List QEntry) {t : State}, CaptureInv t →
      (∀ j, ((l.foldl (cancelNotice win) t).capSlot j).armed = (t.capSlot j).armed) ∧
        (l.foldl (cancelNotice win) t).cap.judgeQ = t.cap.judgeQ := by
    intro l
    induction l with
    | nil => exact fun _ => ⟨fun _ => rfl, rfl⟩
    | cons e l ih =>
      intro t ht
      obtain ⟨ha, hq⟩ := ih (captureInv_cancelNotice win e ht)
      exact ⟨fun j => (ha j).trans (cancelNotice_armed win e ht j).1, hq.trans (cancelNotice_armed win e ht 0).2⟩
  rcases cancelQueued_cases win addr s with he | he <;> rw [he]
  · exact ⟨rfl, rfl⟩
  · obtain ⟨ha, hq⟩ := key (s.ins.entries.filter fun e => decide (e.addr = addr))
      (captureInv_about.keep (unqueued_frame addr s) h (by decide))
    refine ⟨?_, hq⟩
    unfold isCaptureCommit
    split
    · rw [ha]
      rfl
    · rfl

theorem captureInv_access (a : Access) {s : State} (h : CaptureInv s) : CaptureInv (takeAccess a s) := by
  have hr : AccessRules a.addr (fun s => s.cap.judgeQ.length < 16) CaptureInv :=
    { quiet := fun h hf => captureInv_about.keep hf h (by decide)
      store := fun _ _ _ h => captureInv_about.keep (storeWrite_frame _ _ _ _) h (by decide)
      shadow := fun _ _ _ h => captureInv_about.keep (takeShadow_frame _ _ _ _) h (by decide)
      unqueue := fun h => captureInv_about.keep (unqueued_frame _ _) h (by decide)
      cancel := fun win e _ h => captureInv_cancelNotice win e h
      commit := fun h => captureInv_about.keep (commitCommand_frame _) h (by decide)
      position := fun h => captureInv_about.keep (commitPosition_frame _) h (by decide)
      arm := fun k _ h => captureInv_arm k h
      capture := fun k w _ h hr => captureInv_complete k _ w h hr
      report := fun _ _ _ h => captureInv_about.keep (takeReport_frame _ _ _) h (by decide)
      verdict := fun k data _ h => captureInv_verdictRead k data h
      fetch := fun _ _ _ h => captureInv_about.keep (fetchRead_frame _ _ _) h (by decide) }
  refine takeAccess_keeps hr h fun win be hc ht => ?_
  have hp : CaptureInv (passSnapshot win s) := h
  obtain ⟨he, hq⟩ := cancelQueued_capture win a.addr hp be
  rw [he] at ht
  have hcs : isCaptureCommit s win be = true := ht
  rw [hcs, Bool.true_and] at hc
  rw [hq]
  exact Nat.lt_of_not_le (of_decide_eq_false hc)

theorem captureInv_finalVerdict (b : Burst) (code : Byte) (flags : Word) (index : Half) {s : State} (h : CaptureInv s) :
    CaptureInv (finalVerdict b code flags index s) := by
  unfold finalVerdict
  split
  · exact captureInv_about.keep (giveData_frame _ _ _ _) (captureInv_modCap _ _ h) (by decide)
  · exact h

theorem captureInv_deferBurst (b : Burst) {s : State} (h : CaptureInv s) : CaptureInv (deferBurst b s) := by
  unfold deferBurst
  split
  · rename_i hl
    refine captureInv_about.keep (giveData_frame _ _ _ _) ⟨h.1, h.2.1, ?_⟩ (by decide)
    simp only [List.length_append, List.length_singleton]
    exact hl
  · exact captureInv_finalVerdict _ _ _ _ h

theorem captureInv_judge (b : Burst) {s : State} (h : CaptureInv s) : CaptureInv (judge b s) := by
  have hr : JudgeRules CaptureInv :=
    { quiet := fun h hf => captureInv_about.keep hf h (by decide)
      verdict := fun _ _ _ _ _ h => captureInv_finalVerdict _ _ _ _ h
      causes := fun _ _ _ h => captureInv_about.keep (addCauses_frame _ _ _) h (by decide)
      fixed := fun _ _ _ _ h => captureInv_about.keep ((fixReading_frame _ _ _ _).seq (endPoll_frame _ _ _)) h (by decide)
      heard := fun _ _ _ _ h => captureInv_about.keep (setMeterState_frame _ _ _) h (by decide)
      defer := fun b _ h => captureInv_deferBurst b h }
  exact judge_keeps hr b h

theorem captureInv_failLoad (status : Byte) (at_ detail : Word) (route : Half) {s : State} (h : CaptureInv s) :
    CaptureInv (failLoad status at_ detail route s) := by
  have hf : ∀ (l : List Burst) {t : State}, CaptureInv t →
      CaptureInv (l.foldl (fun t b => refuseBurst b vNoRoute t) t) :=
    fun l _ => foldl_keeps (fun _ b => captureInv_finalVerdict b _ _ _) l
  unfold failLoad
  exact captureInv_about.keep (respond_frame _ _ _) (hf _ ⟨h.1, h.2.1, Nat.zero_le _⟩) (by decide)

/-- A load's read, for a property that only a failed load can break. -/
theorem loadStep_keeps {ps : List Part} {P : State → Prop} (ha : About ps P) {s : State} (h : P s)
    (hfail : ∀ {t}, P t → ∀ status at_ detail route, P (failLoad status at_ detail route t)) (d : Disturb)
    (hd : ∀ p ∈ ps, p ∉ [Part.bus, .ev, .flt, .dir, .meterStates, .load, .route, .cmd, .given]) :
    P (headerStep d s) ∧ P (entryStep d s) := by
  have hread : P (completeRead d s) := ha.keep ((completeRead_frame d s).mono (by decide)) h hd
  have hload : ∀ {t : State} (l : Option Load), P t → P { t with route := { t.route with load := l } } :=
    fun l ht => ha.keep ((load_frame l _).mono (by decide)) ht hd
  have hdir : ∀ {t : State} (l : List Meter), P t → P { t with dir := l } :=
    fun l ht => ha.keep ((dir_frame l _).mono (by decide)) ht hd
  constructor
  · unfold headerStep
    split
    · unfold takeHeader
      dsimp only
      split
      · exact hfail hread _ _ _ _
      · split
        · exact hload _ hread
        · split
          · exact hload _ hread
          · exact hfail hread _ _ _ _
    · exact h
  · unfold entryStep
    split
    · unfold takeEntry
      dsimp only
      split
      · exact hfail hread _ _ _ _
      · split
        · exact hload _ hread
        · unfold checkEntry
          dsimp only
          split
          · exact hfail hread _ _ _ _
          · split
            · exact hfail hread _ _ _ _
            · split
              · exact hfail hread _ _ _ _
              · split
                · refine ha.keep (qs := [.bus, .ev, .flt, .dir, .meterStates, .load, .route, .cmd, .given])
                    (Frame.mono (ps := [.dir, .meterStates, .load]) ?_ (by decide)) hread hd
                  simp [frame_iff, Same]
                · unfold closeLoad
                  split
                  · exact ha.keep ((succeedLoad_frame _ _ _).mono (by decide)) (hdir _ hread) hd
                  · exact hfail (hdir _ hread) _ _ _ _
    · exact h

theorem captureInv_effect {k : EventKind} {s u : State} (h : CaptureInv s) (he : Effect k s u) : CaptureInv u := by
  have hf := he.frame
  have hfail {t : State} (ht : CaptureInv t) (a : Byte) (b c : Word) (d : Half) := captureInv_failLoad a b c d ht
  cases he with
  | arrive a =>
    rcases arrive_cases a s with ha | ⟨-, ha⟩
    · exact captureInv_about.keep ha h (by decide)
    · rw [ha]
      exact captureInv_access a h
  | takeHeld hdue =>
    obtain ⟨-, x, -, ha⟩ := takeHeld_due hdue
    rw [ha]
    exact captureInv_access x.access h
  | judgeHead =>
    unfold judgeHead
    split
    · exact h
    · rename_i b q hq
      obtain ⟨h1, h2, h3⟩ := h
      exact captureInv_judge b ⟨h1, by rw [hq] at h2; exact Nat.le_of_succ_le h2, h3⟩
  | judgeDeferred =>
    unfold judgeDeferred
    split
    · exact h
    · rename_i b q hq
      obtain ⟨h1, h2, h3⟩ := h
      exact captureInv_judge b ⟨h1, h2, by rw [hq] at h3; exact Nat.le_of_succ_le h3⟩
  | headerStep d => exact (loadStep_keeps captureInv_about h hfail d (by decide)).1
  | entryStep d => exact (loadStep_keeps captureInv_about h hfail d (by decide)).2
  | _ => exact captureInv_about.keep hf h (by decide)

/-- Settles O11: a burst joins the Judge Queue only where its commit is not held for want of a place, which the entries it
cancels do not change, and the Deferred List only where that has one. -/
theorem stepKeepsTheCaptureBounds : Obligations.StepKeepsTheCaptureBounds := by
  intro s t h hs
  exact step_keeps (P := CaptureInv) (fun _ _ h => h) (fun _ _ _ => ⟨rfl, Nat.zero_le _, Nat.zero_le _⟩)
    (fun _ => ⟨rfl, Nat.zero_le _, Nat.zero_le _⟩)
    (fun h he => captureInv_about.keep (finish_frame _ _) (captureInv_effect h he) (by decide)) h hs

end Sys2Proof.Machine
end

section
/-! The bounds of the Tamper List, the rosters, the counters and the Poll List. -/
namespace Sys2Proof.Machine

/-! ### Accesses that reach a property through commands alone -/

/-- The parts an access may change without running a command. -/
def busParts : List Part :=
  [.store, .shadow, .bus, .queue, .given, .cmd, .capSlots, .capLists, .capCounts, .pollTx, .pollCounts, .pollList, .dir,
    .meterStates, .route, .ev]

/-- A property of none of the parts that an access changes itself is kept when every command and every fetch (R173) keep it. -/
theorem commands_keep {ps : List Part} {P : State → Prop} (ha : About ps P)
    (hrun : ∀ c prm {s}, s.scanDone = true → P s → P (runCommand c prm s))
    (hfetch : ∀ k w {s}, P s → P (fetchRead k w s)) (a : Access) {s : State} (h : P s)
    (hd : ∀ p ∈ ps, p ∉ busParts) : P (takeAccess a s) := by
  have keep {qs : List Part} {t u : State} (hf : Frame qs t u) (ht : P t) (hq : ∀ p ∈ qs, p ∈ busParts) : P u :=
    ha.keep hf ht fun p hp hpq => hd p hp (hq p hpq)
  have hr : AccessRules a.addr (fun _ => True) P :=
    { quiet := fun h hf => keep hf h (by decide)
      store := fun _ _ _ h => keep (storeWrite_frame _ _ _ _) h (by decide)
      shadow := fun _ _ _ h => keep (takeShadow_frame _ _ _ _) h (by decide)
      unqueue := fun h => keep (unqueued_frame _ _) h (by decide)
      cancel := fun _ _ _ h => keep (cancelNotice_frame _ _ _) h (by decide)
      commit := fun {s} h => by
        rcases commitCommand_cases s with hf | ⟨c, prm, t, ht, hd, he⟩
        · exact keep hf h (by decide)
        · rw [he]
          exact hrun c prm hd (keep ht h (by decide))
      position := fun h => keep (commitPosition_frame _) h (by decide)
      arm := fun _ _ h => keep (armSlot_frame _ _) h (by decide)
      capture := fun _ _ _ h _ => keep (takeCaptureCommit_frame _ _ _ _) h (by decide)
      report := fun _ _ _ h => keep (takeReport_frame _ _ _) h (by decide)
      verdict := fun _ _ _ h => keep (verdictRead_frame _ _ _) h (by decide)
      fetch := fun k w _ h => hfetch k w h }
  exact takeAccess_keeps hr h fun _ _ _ _ => trivial

/-- An access event, for a property that accesses reach through commands alone. -/
theorem accessEvent_keeps {ps : List Part} {P : State → Prop} (ha : About ps P)
    (hrun : ∀ c prm {s}, s.scanDone = true → P s → P (runCommand c prm s))
    (hfetch : ∀ k w {s}, P s → P (fetchRead k w s)) {s u : State} (h : P s)
    (he : Effect .access s u) (hd : ∀ p ∈ ps, p ∉ busParts) : P u := by
  have bus {t v : State} (hf : Frame [.bus] t v) (ht : P t) : P v :=
    ha.keep hf ht fun p hp hpq => hd p hp (by revert hpq; cases p <;> decide)
  cases he with
  | arrive a =>
    rcases arrive_cases a s with hf | ⟨-, hf⟩
    · exact bus hf h
    · rw [hf]
      exact commands_keep ha hrun hfetch a h hd
  | takeHeld hdue =>
    obtain ⟨-, x, -, hf⟩ := takeHeld_due hdue
    rw [hf]
    exact commands_keep ha hrun hfetch x.access (bus (held_frame none s) h) hd

/-! ### The Tamper List and the rosters (R118, R144, R148) -/

theorem listInv_about : About [.tamperList, .rosters] ListInv := by
  intro s t hs ⟨h1, h2, h3⟩
  have ht : t.tamper.list = s.tamper.list := hs .tamperList (by decide)
  obtain ⟨hr, hw⟩ := hs .rosters (by decide)
  exact ⟨ht ▸ h1, hr ▸ h2, hw ▸ h3⟩

/-- Lists that do not grow stay within their bounds. -/
theorem listInv_shrink {s t : State} (h : ListInv s) (ht : t.tamper.list.length ≤ s.tamper.list.length)
    (hr : t.sm.roster.length ≤ s.sm.roster.length) (hw : t.sm.workRoster.length ≤ s.sm.workRoster.length) : ListInv t :=
  ⟨ht.trans h.1, hr.trans h.2.1, hw.trans h.2.2⟩

@[simp] theorem length_rosterUp (r : Half) (ro : List RosterEntry) : (rosterUp r ro).length = ro.length :=
  List.length_map ..

theorem length_rosterDown_le (r : Half) (ro : List RosterEntry) : (rosterDown r ro).length ≤ ro.length := by
  unfold rosterDown
  exact (List.length_filter_le _ _).trans (List.length_map ..).le

theorem length_rosterClose_le (ro : List RosterEntry) : (rosterClose ro).length ≤ ro.length := by
  unfold rosterClose
  exact (List.length_filter_le _ _).trans (List.length_map ..).le

@[simp] theorem length_assignSlot (route : Half) (meter : Word) (k : Nat) (causes : Byte) (l : List TamperEntry) :
    (assignSlot route meter k causes l).length = l.length := by
  induction l with
  | nil => rfl
  | cons e es ih =>
    unfold assignSlot
    split
    · rfl
    · simp [ih]

theorem admitRoute_length_le {r : Half} {ro out : List RosterEntry} (h : admitRoute r ro = some out)
    (hro : ro.length ≤ 16) : out.length ≤ 16 := by
  unfold admitRoute at h
  split at h
  · simp only [Option.some.injEq] at h
    simpa [← h] using hro
  · split at h
    · rename_i hl
      simp only [Option.some.injEq] at h
      rw [← h, List.length_append, List.length_singleton]
      exact hl
    · simp at h

theorem listInv_createTamper (e : TamperEntry) {s : State} (h : ListInv s) : ListInv (createTamper e s) := by
  obtain ⟨h1, h2, h3⟩ := h
  refine ⟨?_, h2, h3⟩
  simp only [createTamper, raise_tamper]
  split
  · rename_i hl
    rw [List.length_append, List.length_singleton]
    exact hl
  · exact h1

theorem listInv_mergeTamper (meter : Word) (causes : Byte) {s : State} (h : ListInv s) :
    ListInv (mergeTamper meter causes s) :=
  listInv_shrink h (List.length_map ..).le le_rfl le_rfl

theorem listInv_lateCauses (i : Nat) (m : Meter) (new : Byte) {s : State} (h : ListInv s) :
    ListInv (lateCauses i m new s) := by
  unfold lateCauses
  split
  · exact listInv_mergeTamper _ _ h
  · exact listInv_about.keep (reLock_frame _ _) (listInv_createTamper _ (listInv_about.keep (backlog_frame _ _)
      (listInv_about.keep (modMeter_frame s (by intro _; rfl)) h (by decide)) (by decide))) (by decide)

theorem listInv_addCauses (i : Nat) (set : Byte) {s : State} (h : ListInv s) : ListInv (addCauses i set s) := by
  have hm (f : Meter → Meter) (hf : ∀ m, (f m).state = m.state) : ListInv (modMeter i f s) :=
    listInv_about.keep (modMeter_frame s hf) h (by decide)
  unfold addCauses
  split
  · exact h
  · dsimp only
    split
    · exact h
    · split
      · exact listInv_lateCauses _ _ _ (hm _ fun _ => rfl)
      · split
        · exact listInv_createTamper _ (hm _ fun _ => rfl)
        · exact listInv_mergeTamper _ _ (hm _ fun _ => rfl)

theorem listInv_judgeRules : JudgeRules ListInv where
  quiet := fun h hf => listInv_about.keep hf h (by decide)
  verdict := fun _ _ _ _ _ h => listInv_about.keep (finalVerdict_frame _ _ _ _ _) h (by decide)
  causes := fun i set _ h => listInv_addCauses i set h
  fixed := fun _ _ _ _ h => listInv_about.keep ((fixReading_frame _ _ _ _).seq (endPoll_frame _ _ _)) h (by decide)
  heard := fun _ _ _ _ h => listInv_about.keep (setMeterState_frame _ _ _) h (by decide)
  defer := fun _ _ h => listInv_about.keep (deferBurst_frame _ _) h (by decide)

theorem listInv_tamperAtComposition (i k : Nat) (note : Bool) {s : State} (h : ListInv s) :
    ListInv (tamperAtComposition i k note s) := by
  unfold tamperAtComposition
  split
  · exact h
  · dsimp only
    refine listInv_shrink h ?_ (by simp) (by simp)
    show (if _ then _ else _ : List TamperEntry).length ≤ _
    split
    · simp
    · simp

theorem listInv_markComposed (req : Request) (k : Nat) (seq : Word) {s : State} (h : ListInv s) :
    ListInv (markComposed req k seq s) := by
  have hm (i : Nat) (f : Meter → Meter) (hf : ∀ m, (f m).state = m.state) : ListInv (modMeter i f s) :=
    listInv_about.keep (modMeter_frame s hf) h (by decide)
  cases req with
  | reading i => exact listInv_tamperAtComposition _ _ _ (hm i _ fun _ => rfl)
  | miss i r => exact listInv_tamperAtComposition _ _ _ (hm i _ fun _ => rfl)
  | note i => exact listInv_tamperAtComposition _ _ _ h
  | summary => exact h

theorem listInv_compose {s : State} (h : ListInv s) : ListInv (compose s) := by
  unfold compose
  split
  · exact h
  · dsimp only
    have hm := listInv_markComposed ‹Request› (lowestFree 0 s.sm.slots) s.sm.nextSeq
      (s := takeSlot ‹Request› ‹List Request› (lowestFree 0 s.sm.slots) s)
      (listInv_shrink h le_rfl (by simp [takeSlot]) le_rfl)
    split
    · exact listInv_about.keep (raise_frame _ _) (listInv_about.keep (given_frame _ _ _ _ _ _ _) hm (by decide)) (by decide)
    · exact listInv_about.keep (given_frame _ _ _ _ _ _ _) hm (by decide)

theorem listInv_completeRoute {s : State} (h : ListInv s) : ListInv (completeRoute s) :=
  listInv_shrink h le_rfl (length_rosterClose_le _) le_rfl

theorem listInv_headerIssued (k : Nat) {s : State} (h : ListInv s) : ListInv (headerIssued k s) := by
  unfold headerIssued
  split
  · exact h
  · split
    · dsimp only
      split
      · exact listInv_completeRoute (listInv_about.keep (modRow_frame _ _ _) h (by decide))
      · exact listInv_about.keep (modRow_frame _ _ _) h (by decide)
    · exact h

theorem listInv_issueHead {s : State} (h : ListInv s) : ListInv (issueHead s) := by
  rcases issueHead_cases s with ⟨-, he⟩ | ⟨e, es, -, he | ⟨k, he⟩⟩ <;> rw [he]
  · exact h
  · exact listInv_about.keep (issued_frame e es s) h (by decide)
  · exact listInv_headerIssued k (listInv_about.keep (issued_frame e es s) h (by decide))

theorem listInv_failLoad (status : Byte) (at_ detail : Word) (route : Half) {s : State} (h : ListInv s) :
    ListInv (failLoad status at_ detail route s) := by
  unfold failLoad
  exact listInv_about.keep ((flushDeferred_frame _).seq (respond_frame _ _ _))
    (listInv_shrink h le_rfl (List.length_filter_le _ _) le_rfl) (by decide)

theorem listInv_takeNumber (d : Disturb) {s : State} (h : ListInv s) : ListInv (takeNumber d s) := by
  have hc : (completeRead d s).sm.roster = s.sm.roster := (completeRead_frame d s .rosters (by decide)).1
  have hread : ListInv (completeRead d s) := listInv_about.keep (completeRead_frame d s) h (by decide)
  have hrefuse (st : Byte) (n : Half) : ListInv (refuseOpen st n (completeRead d s)) :=
    listInv_about.keep (respond_frame _ _ _) (listInv_about.keep (load_frame _ _) hread (by decide)) (by decide)
  unfold takeNumber
  dsimp only
  split
  · exact hrefuse _ _
  · split
    · exact hrefuse _ _
    · split
      · exact hrefuse _ _
      · split
        · exact hrefuse _ _
        · rename_i hl
          obtain ⟨h1, h2, h3⟩ := hread
          refine ⟨h1, ?_, h3⟩
          show (_ ++ [_]).length ≤ 16
          rw [List.length_append, List.length_singleton, hc]
          exact Nat.lt_of_not_le hl

theorem listInv_foundRecord (k : Nat) (kind : Kind) (w0 w1 w2 : Word) {s : State} (h : ListInv s) :
    ListInv (foundRecord k kind w0 w1 w2 s) := by
  obtain ⟨h1, h2, h3⟩ := h
  unfold foundRecord
  dsimp only
  split
  · rename_i ro hro
    exact ⟨h1, h2, admitRoute_length_le hro h3⟩
  · exact ⟨h1, h2, h3⟩

theorem listInv_decideSlot (k : Nat) (w0 w1 w2 : Word) {s : State} (h : ListInv s) : ListInv (decideSlot k w0 w1 w2 s) := by
  unfold decideSlot
  split
  · exact h
  · split
    · exact listInv_foundRecord _ _ _ _ _ h
    · exact listInv_about.keep (setFinding_frame _ _ _) h (by decide)

theorem listInv_endScan {s : State} (h : ListInv s) : ListInv (endScan s) := by
  obtain ⟨h1, h2, h3⟩ := h
  unfold endScan
  dsimp only
  split
  · exact ⟨h1, h3, Nat.zero_le _⟩
  · exact ⟨h1, h3, Nat.zero_le _⟩

theorem listInv_rebuildFrom (rest : List Nat) {s : State} (h : ListInv s) : ListInv (rebuildFrom rest s) := by
  unfold rebuildFrom
  split
  · exact listInv_endScan h
  · exact listInv_about.keep (findings_frame _ _ _) h (by decide)

theorem listInv_afterSlot (k : Nat) {s : State} (h : ListInv s) : ListInv (afterSlot k s) := by
  unfold afterSlot afterSlots
  split
  · exact listInv_about.keep (findings_frame _ _ _) h (by decide)
  · exact listInv_rebuildFrom _ h

theorem listInv_scanStep (d : Disturb) {s : State} (h : ListInv s) : ListInv (scanStep d s) := by
  have hread : ListInv (completeRead d s) := listInv_about.keep (completeRead_frame d s) h (by decide)
  unfold scanStep
  split
  · unfold takeScanWord
    dsimp only
    split
    · exact listInv_afterSlot _ (listInv_about.keep (setFinding_frame _ _ _) hread (by decide))
    · split
      · exact listInv_afterSlot _ (listInv_decideSlot _ _ _ _ hread)
      · exact listInv_about.keep (findings_frame _ _ _) hread (by decide)
  · exact h

theorem listInv_rebuildStep (d : Disturb) {s : State} (h : ListInv s) : ListInv (rebuildStep d s) := by
  have hread : ListInv (completeRead d s) := listInv_about.keep (completeRead_frame d s) h (by decide)
  unfold rebuildStep
  split
  · unfold takeRebuildWord
    dsimp only
    split
    · exact listInv_rebuildFrom _ (listInv_shrink hread le_rfl le_rfl (length_rosterDown_le _ _))
    · split
      · exact listInv_about.keep (findings_frame _ _ _) hread (by decide)
      · exact listInv_rebuildFrom _ (listInv_createTamper _ hread)
  · exact h

theorem listInv_tamperAckWork (k : Word) {s : State} (h : ListInv s) : ListInv (tamperAckWork k s) := by
  unfold tamperAckWork
  dsimp only
  split
  · exact listInv_about.keep (respond_frame _ _ _) h (by decide)
  · refine listInv_about.keep (answered_frame _ _ _) (listInv_about.keep (Frame.foldl ackEntry_frame _ _)
      (listInv_shrink (t := { s with tamper := { s.tamper with list := s.tamper.list.drop k.toNat } }) h ?_ le_rfl le_rfl) (by decide)) (by decide)
    exact (List.length_drop ..).trans_le (Nat.sub_le _ _)

theorem listInv_releaseSlot (s : State) (it : BatchItem) (h : ListInv s) : ListInv (releaseSlot s it) :=
  listInv_shrink h (List.length_filter_le _ _) (length_rosterDown_le _ _) le_rfl

theorem listInv_releaseBatch (b : Batch) {s : State} (h : ListInv s) : ListInv (releaseBatch b s) := by
  unfold releaseBatch
  exact listInv_about.keep (((up_frame _ _).seq (giveManifest_frame _ _ _ _ _)).seq (respondUpload_frame _ _ _))
    (foldl_keeps listInv_releaseSlot _ h) (by decide)

theorem listInv_runCommand (c : HostCommand) (prm : List Word) {s : State} (h : ListInv s) :
    ListInv (runCommand c prm s) := by
  have hrefuse (st : Byte) (r : List Word) : ListInv (respond st r s) := listInv_about.keep (respond_frame _ _ _) h (by decide)
  have hf := runCommand_frame c prm s
  cases c with
  | tamperAck => exact listInv_tamperAckWork _ h
  | uploadBegin =>
    show ListInv (uploadBeginWork _ s)
    unfold uploadBeginWork
    split
    · exact hrefuse _ _
    · split
      · exact hrefuse _ _
      · split
        · exact hrefuse _ _
        · split
          · exact hrefuse _ _
          · exact listInv_about.keep (acceptBegin_frame _ _) h (by decide)
  | uploadAck =>
    show ListInv (uploadAckWork _ _ s)
    unfold uploadAckWork
    dsimp only
    split
    · exact hrefuse _ _
    · split
      · exact hrefuse _ _
      · split
        · exact hrefuse _ _
        · split
          · exact hrefuse _ _
          · exact listInv_releaseBatch _ h
  | _ => exact listInv_about.keep hf h (by decide)

theorem listInv_effect {k : EventKind} {s u : State} (h : ListInv s) (he : Effect k s u) : ListInv u := by
  have hf := he.frame
  cases k with
  | access =>
    exact accessEvent_keeps listInv_about (fun c prm _ _ => listInv_runCommand c prm)
      (fun _ _ _ h => listInv_about.keep (fetchRead_frame _ _ _) h (by decide)) h he (by decide)
  | judgement => exact judgement_keeps listInv_about listInv_judgeRules h he (by decide)
  | number => cases he; exact listInv_takeNumber _ h
  | header => cases he; exact (loadStep_keeps listInv_about h (fun ht a b c d => listInv_failLoad a b c d ht) _ (by decide)).1
  | entry => cases he; exact (loadStep_keeps listInv_about h (fun ht a b c d => listInv_failLoad a b c d ht) _ (by decide)).2
  | scanned => cases he; exact listInv_scanStep _ h
  | rebuilt => cases he; exact listInv_rebuildStep _ h
  | issue => cases he; exact listInv_issueHead h
  | composition => cases he; exact listInv_compose h
  | _ => exact listInv_about.keep hf h (by decide)

theorem step_keeps_listInv {s t : State} (h : ListInv s) (hs : step s = .next t) : ListInv t :=
  step_keeps (P := ListInv) (fun _ _ h => h) (fun _ _ _ => ⟨Nat.zero_le _, Nat.zero_le _, Nat.zero_le _⟩)
    (fun _ => ⟨Nat.zero_le _, Nat.zero_le _, Nat.zero_le _⟩)
    (fun h he => listInv_about.keep (finish_frame _ _) (listInv_effect h he) (by decide)) h hs

/-! ### The ring position, the pulse and the detector (R95, R187, R191) -/

theorem counterInv_about : About [.pollPos, .pulse, .detector] CounterInv := by
  intro s t hs ⟨h1, h2, h3⟩
  have hp : t.poll.ringPos = s.poll.ringPos := hs .pollPos (by decide)
  have hl : t.ev.pulse.left = s.ev.pulse.left := hs .pulse (by decide)
  have hd : t.flt.detector = s.flt.detector := hs .detector (by decide)
  exact ⟨hp ▸ h1, hl ▸ h2, hd ▸ h3⟩

theorem counterInv_beginFrame {s : State} (h : CounterInv s) : CounterInv (beginFrame s) := by
  have hring (k : Nat) (tag : Half) {t : State} (ht : CounterInv t) :
      CounterInv { t with poll := { t.poll with tag := tag, ringPos := (k + 1) % 32 } } :=
    ⟨Nat.mod_lt _ (by decide), ht.2.1, ht.2.2⟩
  unfold beginFrame
  split
  · split
    · unfold startFrame
      exact counterInv_about.keep (Frame.foldl (fun u q => give_frame .pollUnit q u) _ _)
        (counterInv_about.keep (modMeter_frame _ (by intro _; rfl)) (hring _ _
          (counterInv_about.keep ((modPoll_frame _ _ s).seq (setTx_frame _ _ _)) h (by decide))) (by decide)) (by decide)
    · exact h
  · exact h

theorem counterInv_detectorFull {s : State} (h : CounterInv s) : CounterInv (detectorFull s) := by
  obtain ⟨h1, h2, -⟩ := h
  unfold detectorFull
  dsimp only
  split
  · exact ⟨h1, h2, le_rfl⟩
  · exact ⟨h1, h2, le_rfl⟩

theorem pulse_edge_left_le {p : Pulse} (h : p.left ≤ 32) : p.edge.left ≤ 32 := by
  unfold Pulse.edge
  split
  · exact le_rfl
  · exact (Nat.sub_le _ _).trans h

theorem counterInv_bclkEdge {s : State} (h : CounterInv s) : CounterInv (bclkEdge s) := by
  obtain ⟨h1, h2, h3⟩ := h
  have hs : CounterInv { s with ev := { s.ev with pulse := s.ev.pulse.edge }.sample } :=
    ⟨h1, by simpa using pulse_edge_left_le h2, h3⟩
  unfold bclkEdge detectorEdge
  split
  · exact counterInv_detectorFull hs
  · rename_i hl
    exact ⟨h1, hs.2.1, Nat.le_of_not_le hl⟩

theorem counterInv_refclkEdge {s : State} (h : CounterInv s) : CounterInv (refclkEdge s) := by
  obtain ⟨h1, h2, -⟩ := h
  unfold refclkEdge
  dsimp only
  split
  · exact ⟨h1, h2, Nat.zero_le _⟩
  · split
    · exact ⟨h1, h2, Nat.zero_le _⟩
    · exact ⟨h1, h2, Nat.zero_le _⟩

theorem counterInv_effect {k : EventKind} {s u : State} (h : CounterInv s) (he : Effect k s u) : CounterInv u := by
  have hf := he.frame
  cases he with
  | beginFrame => exact counterInv_beginFrame h
  | refclkEdge => exact counterInv_refclkEdge h
  | advanceClock => exact ⟨h.1, h.2.1, Nat.zero_le _⟩
  | detectorFull => exact counterInv_detectorFull h
  | bclkEdge => exact counterInv_bclkEdge h
  | sleepEdges levels => exact foldl_keeps (f := sleepEdge) (fun _ _ ht => counterInv_bclkEdge ht) levels h
  | pulseEnd => exact ⟨h.1, Nat.zero_le _, h.2.2⟩
  | _ => exact counterInv_about.keep hf h (by decide)

theorem step_keeps_counterInv {s t : State} (h : CounterInv s) (hs : step s = .next t) : CounterInv t :=
  step_keeps (P := CounterInv) (fun _ _ h => h) (fun _ _ _ => ⟨Nat.zero_lt_succ 31, Nat.zero_le _, Nat.zero_le _⟩)
    (fun _ => ⟨Nat.zero_lt_succ 31, Nat.zero_le _, Nat.zero_le _⟩)
    (fun h he => counterInv_about.keep (finish_frame _ _) (counterInv_effect h he) (by decide)) h hs

end Sys2Proof.Machine
end

section
/-! The Poll List (R92) and the load states (R37, R39). -/
namespace Sys2Proof.Machine

/-! ### The list and the meter states, as data -/

/-- R92, of a Poll List and the states of the directory's meters. -/
def PollForm (l : List PollEntry) (ms : List MeterState) : Prop :=
  (l.map PollEntry.index).Nodup ∧ l.countP (fun e => e.sub.inFlight) ≤ 8 ∧
    ∀ i, i ∈ l.map PollEntry.index ↔ ms[i]? = some .polling

/-- R37, R39, R92, of the route state, the load and the Poll List. -/
def LoadForm (st : RouteState) (ld : Option Load) (l : List PollEntry) : Prop :=
  (st ≠ .opened → l = []) ∧ ∀ x, ld = some x → st = if x = .number then .noRoute else .loading

/-- The states of the directory's meters. -/
def State.meterStates (s : State) : List MeterState := s.dir.map Meter.state

theorem meterStates_get (s : State) (i : Nat) (st : MeterState) :
    s.meterStates[i]? = some st ↔ ∃ m, s.dir[i]? = some m ∧ m.state = st := by
  unfold State.meterStates
  rw [List.getElem?_map, Option.map_eq_some_iff]

theorem pollInv_iff (s : State) :
    PollInv s ↔ PollForm s.poll.list s.meterStates ∧ LoadForm s.route.state s.route.load s.poll.list := by
  unfold PollInv PollForm LoadForm State.inFlightCount
  simp only [meterStates_get, List.mem_map, and_assoc]

theorem pollInv_about : About [.pollList, .meterStates, .load] PollInv := by
  intro s t hs h
  rw [pollInv_iff] at h ⊢
  have hl : t.poll.list = s.poll.list := hs .pollList (by decide)
  have hm : t.meterStates = s.meterStates := hs .meterStates (by decide)
  obtain ⟨hr, hd⟩ := hs .load (by decide)
  rwa [hl, hm, hr, hd]

section
variable {l : List PollEntry} {ms : List MeterState}

/-- An entry of the list stands alone for its meter. -/
theorem PollForm.eq_of_index (h : PollForm l ms) {e f : PollEntry} (he : e ∈ l) (hf : f ∈ l) (hi : e.index = f.index) :
    e = f :=
  List.inj_on_of_nodup_map h.1 he hf hi

theorem PollForm.add (h : PollForm l ms) {i : Nat} (hlt : i < ms.length) (hn : ms[i]? ≠ some .polling) (a : Byte) :
    PollForm (l ++ [⟨i, a, none, .queued⟩]) (ms.set i .polling) := by
  obtain ⟨hd, hc, hm⟩ := h
  refine ⟨?_, ?_, fun j => ?_⟩
  · rw [List.map_append, List.nodup_append]
    refine ⟨hd, List.nodup_singleton _, fun a ha b hb => ?_⟩
    simp only [List.map_cons, List.map_nil, List.mem_singleton] at hb
    rintro rfl
    rw [hb, hm i] at ha
    exact hn ha
  · rw [List.countP_append]
    simpa [PollSub.inFlight] using hc
  · rw [List.map_append, List.mem_append, hm j, List.getElem?_set]
    by_cases hj : i = j
    · subst hj
      simp [hlt]
    · simp [hj, Ne.symm hj]

theorem PollForm.remove (h : PollForm l ms) (i : Nat) {new : MeterState} (hn : new ≠ .polling) :
    PollForm (l.filter fun e => decide (e.index ≠ i)) (ms.set i new) := by
  obtain ⟨hd, hc, hm⟩ := h
  refine ⟨(List.filter_sublist.map _).nodup hd, (List.filter_sublist.countP_le).trans hc, fun j => ?_⟩
  have hmem : j ∈ (l.filter fun e => decide (e.index ≠ i)).map PollEntry.index ↔ j ∈ l.map PollEntry.index ∧ j ≠ i := by
    simp only [List.mem_map, List.mem_filter, decide_eq_true_eq]
    constructor
    · rintro ⟨e, ⟨he, hi⟩, rfl⟩
      exact ⟨⟨e, he, rfl⟩, hi⟩
    · rintro ⟨⟨e, he, rfl⟩, hi⟩
      exact ⟨e, ⟨he, hi⟩, rfl⟩
  rw [hmem, hm j, List.getElem?_set]
  by_cases hj : i = j
  · subst hj
    simp [hn]
  · simp [hj, Ne.symm hj]

/-- Entries that keep their meters, with at most 8 in flight. -/
theorem PollForm.modify (h : PollForm l ms) (i : Nat) {f : PollEntry → PollEntry} (hf : ∀ e, (f e).index = e.index)
    (hc : (l.map fun e => if e.index = i then f e else e).countP (fun e => e.sub.inFlight) ≤ 8) :
    PollForm (l.map fun e => if e.index = i then f e else e) ms := by
  have hidx : (l.map fun e => if e.index = i then f e else e).map PollEntry.index = l.map PollEntry.index := by
    rw [List.map_map]
    refine List.map_congr_left fun e _ => ?_
    show (if e.index = i then f e else e).index = e.index
    split
    · exact hf e
    · rfl
  exact ⟨hidx ▸ h.1, hc, hidx ▸ h.2.2⟩

/-- An entry that changes leaves no more in flight, when it was in flight or is not. -/
theorem PollForm.settle (h : PollForm l ms) (i : Nat) {f : PollEntry → PollEntry} (hf : ∀ e, (f e).index = e.index)
    (hs : ∀ e ∈ l, e.index = i → (f e).sub.inFlight = true → e.sub.inFlight = true) :
    PollForm (l.map fun e => if e.index = i then f e else e) ms := by
  refine h.modify i hf (le_trans ?_ h.2.1)
  rw [List.countP_map]
  refine List.countP_mono_left fun e he ht => ?_
  simp only [Function.comp_apply] at ht
  split at ht
  · exact hs e he ‹_› ht
  · exact ht

/-- A change of one meter's entry adds at most one entry in flight. -/
theorem countP_modify_le (i : Nat) (f : PollEntry → PollEntry) (p : PollEntry → Bool) (l : List PollEntry)
    (h : (l.map PollEntry.index).Nodup) : (l.map fun e => if e.index = i then f e else e).countP p ≤ l.countP p + 1 := by
  induction l with
  | nil => exact Nat.zero_le _
  | cons x l ih =>
    rw [List.map_cons, List.nodup_cons] at h
    obtain ⟨hx, hl⟩ := h
    rw [List.map_cons, List.countP_cons, List.countP_cons]
    by_cases hi : x.index = i
    · have hrest : (l.map fun e => if e.index = i then f e else e) = l := by
        refine (List.map_congr_left fun e he => ?_).trans (List.map_id _)
        have hne : e.index ≠ i := fun h => hx (hi ▸ h ▸ List.mem_map_of_mem he)
        simp [hne]
      rw [hrest]
      split <;> split <;> omega
    · have := ih hl
      simp only [hi, if_false]
      omega

theorem PollForm.setState (h : PollForm l ms) {i : Nat} {old new : MeterState} (ho : ms[i]? = some old)
    (hn : old = .polling ∧ new = .polling ∨ old ≠ .polling ∧ new ≠ .polling) : PollForm l (ms.set i new) := by
  obtain ⟨hd, hc, hm⟩ := h
  refine ⟨hd, hc, fun j => ?_⟩
  rw [hm j, List.getElem?_set]
  by_cases hj : i = j
  · subst hj
    obtain ⟨hlt, hv⟩ := List.getElem?_eq_some_iff.mp ho
    rcases hn with ⟨h1, h2⟩ | ⟨h1, h2⟩ <;> simp [hv, h1, h2, hlt]
  · simp [hj]

theorem pollForm_nil_iff : PollForm [] ms ↔ ∀ i : Nat, ms[i]? ≠ some MeterState.polling := by simp [PollForm]

end

/-! ### What the operations do to them -/

theorem meterStates_modMeter {i : Nat} {f : Meter → Meter} (s : State) (hf : ∀ m, (f m).state = m.state) :
    (modMeter i f s).meterStates = s.meterStates :=
  modMeter_states s hf

@[simp] theorem meterStates_setMeterState (i : Nat) (new : MeterState) (s : State) :
    (setMeterState i new s).meterStates = s.meterStates.set i new := by
  unfold setMeterState State.meterStates
  split
  · rename_i hn
    rw [List.set_eq_of_length_le]
    simpa using hn
  · rename_i m hm
    have hd : (moveSegment m.img.segment m.state new s).dir = s.dir :=
      moveSegment_frame m.img.segment m.state new s .dir (by decide)
    rw [modMeter_dir, hd]
    apply List.ext_getElem?
    intro j
    rw [List.getElem?_map, List.getElem?_modify, List.getElem?_set, List.getElem?_map]
    by_cases hj : i = j
    · subst hj
      simp [(List.getElem?_eq_some_iff.mp hm).1]
    · simp [hj]

/-- The load is untouched. -/
theorem setMeterState_load (i : Nat) (new : MeterState) (s : State) :
    (setMeterState i new s).route.state = s.route.state ∧ (setMeterState i new s).route.load = s.route.load :=
  setMeterState_frame i new s .load (by decide)

/-- A meter's state and the Poll List change together. -/
theorem pollInv_of_forms {s t : State} (h : PollInv s) (hp : PollForm t.poll.list t.meterStates)
    (hl : t.route.state = s.route.state ∧ t.route.load = s.route.load)
    (he : s.route.state ≠ .opened → t.poll.list = []) : PollInv t := by
  rw [pollInv_iff] at h ⊢
  obtain ⟨-, -, h2⟩ := h
  rw [hl.1, hl.2]
  exact ⟨hp, he, h2⟩

theorem PollInv.form {s : State} (h : PollInv s) : PollForm s.poll.list s.meterStates := ((pollInv_iff s).mp h).1

theorem PollInv.empty {s : State} (h : PollInv s) (hs : s.route.state ≠ .opened) : s.poll.list = [] :=
  ((pollInv_iff s).mp h).2.1 hs

theorem PollInv.opened {s : State} (h : PollInv s) {e : PollEntry} (he : e ∈ s.poll.list) : s.route.state = .opened := by
  by_contra hs
  rw [h.empty hs] at he
  exact List.not_mem_nil he

theorem PollInv.no_load {s : State} (h : PollInv s) (hs : s.route.state = .opened ∨ s.route.state = .closing) :
    s.route.load = none := by
  obtain ⟨-, -, h2⟩ := (pollInv_iff s).mp h
  rcases hl : s.route.load with _ | x
  · rfl
  · have hx := h2 x hl
    split at hx <;> rcases hs with hs | hs <;> rw [hs] at hx <;> exact absurd hx (by decide)

theorem pollInv_addPoll {i : Nat} {s : State} (h : PollInv s) (ho : s.route.state = .opened)
    (hlt : i < s.meterStates.length) (hn : s.meterStates[i]? ≠ some .polling) : PollInv (addPoll i s) := by
  unfold addPoll
  refine pollInv_of_forms h ?_ (setMeterState_load _ _ _) fun hs => absurd ho hs
  rw [meterStates_setMeterState, setMeterState_poll, modMeter_poll, meterStates_modMeter]
  · exact h.form.add hlt hn 1
  · intro _
    rfl

theorem meterStates_addPoll (i : Nat) (s : State) : (addPoll i s).meterStates = s.meterStates.set i .polling := by
  unfold addPoll
  rw [meterStates_setMeterState, meterStates_modMeter]
  · rfl
  · intro _
    rfl

theorem addPoll_state (i : Nat) (s : State) : (addPoll i s).route.state = s.route.state :=
  (addPoll_frame i s .load (by decide)).1

/-- The walk adds each of its meters once. -/
theorem pollInv_addPolls (js : List Nat) : ∀ {s : State}, PollInv s → s.route.state = .opened → js.Nodup →
    (∀ j ∈ js, j < s.meterStates.length ∧ s.meterStates[j]? ≠ some .polling) →
    PollInv (js.foldl (fun u i => addPoll i u) s) := by
  induction js with
  | nil => exact fun h _ _ _ => h
  | cons j js ih =>
    intro s h ho hd hj
    rw [List.nodup_cons] at hd
    obtain ⟨hlt, hn⟩ := hj j List.mem_cons_self
    refine ih (pollInv_addPoll h ho hlt hn) ((addPoll_state j s).trans ho) hd.2 fun k hk => ?_
    obtain ⟨hkl, hkn⟩ := hj k (List.mem_cons_of_mem _ hk)
    have hne : j ≠ k := fun he => hd.1 (he ▸ hk)
    rw [meterStates_addPoll, List.length_set, List.getElem?_set_ne hne]
    exact ⟨hkl, hkn⟩

theorem walkOf_mem {s : State} {g i : Nat} (h : i ∈ walkOf s g) :
    i < s.meterStates.length ∧ s.meterStates[i]? ≠ some .polling := by
  unfold walkOf at h
  rw [List.mem_filter, List.mem_range] at h
  obtain ⟨hlt, hm⟩ := h
  refine ⟨by simpa [State.meterStates] using hlt, ?_⟩
  rw [Ne, meterStates_get]
  rintro ⟨m, hi, hs⟩
  simp [hi, hs] at hm

theorem pollInv_leaveActive {s : State} (h : PollInv s) (ho : s.route.state = .opened) : PollInv (leaveActive s) := by
  unfold leaveActive
  split
  · rename_i g _
    have hw := pollInv_addPolls (walkOf s g) h ho (List.nodup_range.filter _) fun _ hi => walkOf_mem hi
    unfold leaveSegment
    dsimp only
    split
    · exact pollInv_about.keep ((segs_frame _ _ _).seq (raise_frame _ _)) hw (by decide)
    · exact pollInv_about.keep (segs_frame _ _ _) hw (by decide)
  · exact h

theorem leaveActive_state (s : State) : (leaveActive s).route.state = s.route.state :=
  (leaveActive_frame s .load (by decide)).1

/-- A meter leaves POLLING and the list at once. -/
theorem pollInv_removePoll {s t : State} (h : PollInv s) (i : Nat) {new : MeterState} (hn : new ≠ .polling)
    (hlist : t.poll.list = s.poll.list.filter fun e => decide (e.index ≠ i)) (hms : t.meterStates = s.meterStates.set i new)
    (hl : t.route.state = s.route.state ∧ t.route.load = s.route.load) : PollInv t := by
  refine pollInv_of_forms h ?_ hl fun hs => ?_
  · rw [hlist, hms]
    exact h.form.remove i hn
  · rw [hlist, h.empty hs]
    rfl

theorem pollInv_modPoll {s : State} (h : PollInv s) {i : Nat} {f : PollEntry → PollEntry} (hf : ∀ e, (f e).index = e.index)
    (hs : ∀ e ∈ s.poll.list, e.index = i → (f e).sub.inFlight = true → e.sub.inFlight = true) :
    PollInv (modPoll i f s) := by
  refine pollInv_of_forms h (h.form.settle i hf hs) ⟨rfl, rfl⟩ fun hc => ?_
  show s.poll.list.map _ = []
  rw [h.empty hc]
  rfl

theorem pollInv_failAttempt (e : PollEntry) {s : State} (h : PollInv s) : PollInv (failAttempt e s) := by
  unfold failAttempt
  split
  · exact pollInv_modPoll h (fun _ => rfl) fun _ _ _ hx => by simp [PollSub.inFlight] at hx
  · exact pollInv_about.keep (raise_frame _ _) (pollInv_removePoll h e.index (new := .unreachable) (by decide)
      (by simp [removePoll]) (by rw [meterStates_setMeterState]; rfl) (setMeterState_load _ _ _)) (by decide)

theorem inRingAt_some {s : State} {k : Nat} {e : PollEntry} (h : inRingAt s k = some e) :
    e ∈ s.poll.list ∧ e.sub = .inRing k :=
  ⟨List.mem_of_find?_eq_some h, by simpa using List.find?_some h⟩

theorem pollInv_setTx (k : Nat) (v : TxState) {s : State} (h : PollInv s) : PollInv (setTx k v s) :=
  pollInv_about.keep (setTx_frame k v s) h (by decide)

theorem pollInv_takeReport (k : Nat) (v : Word) {s : State} (h : PollInv s) : PollInv (takeReport k v s) := by
  unfold takeReport
  split
  · exact h
  · split
    · split
      · rename_i e he
        obtain ⟨hmem, hsub⟩ := inRingAt_some he
        refine pollInv_about.keep (sent_frame _ _) (pollInv_modPoll (pollInv_setTx k _ h) (fun _ => rfl) ?_) (by decide)
        intro x hx hi _
        rw [h.form.eq_of_index hx hmem hi, hsub]
        rfl
      · exact pollInv_setTx k _ h
    · split
      · split
        · exact pollInv_failAttempt _ (pollInv_setTx k _ h)
        · exact pollInv_setTx k _ h
      · exact h

theorem pollInv_withdrawFrame (k : Nat) {s : State} (h : PollInv s) : PollInv (withdrawFrame k s) := by
  unfold withdrawFrame
  dsimp only
  split
  · exact pollInv_modPoll (pollInv_setTx k _ h) (fun _ => rfl) fun _ _ _ hx => by simp [PollSub.inFlight] at hx
  · exact pollInv_setTx k _ h

theorem pollInv_expire (i : Nat) {s : State} (h : PollInv s) : PollInv (expire i s) := by
  unfold expire
  split
  · exact pollInv_failAttempt _ h
  · exact h

theorem pollOf_some {s : State} {i : Nat} {e : PollEntry} (h : pollOf s i = some e) : e ∈ s.poll.list ∧ e.index = i :=
  ⟨List.mem_of_find?_eq_some h, by simpa using List.find?_some h⟩

/-- A hold-off's release moves the entry to the tail. -/
theorem PollForm.requeue {l : List PollEntry} {ms : List MeterState} (h : PollForm l ms) {e : PollEntry} (he : e ∈ l)
    (a : Byte) : PollForm ((l.filter fun x => decide (x.index ≠ e.index)) ++ [⟨e.index, a, none, .queued⟩]) ms := by
  obtain ⟨hlt, hv⟩ := List.getElem?_eq_some_iff.mp ((h.2.2 _).mp (List.mem_map_of_mem he))
  have hr := (h.remove e.index (new := .expected) (by decide)).add (i := e.index) (a := a) (by simpa using hlt)
    (by simp [hlt])
  rw [List.set_set] at hr
  have hset : ms.set e.index .polling = ms := hv ▸ List.set_getElem_self hlt
  rwa [hset] at hr

theorem pollInv_release (i : Nat) {s : State} (h : PollInv s) : PollInv (release i s) := by
  unfold release
  split
  · rename_i e he
    obtain ⟨hmem, hi⟩ := pollOf_some he
    refine pollInv_of_forms h ?_ ⟨rfl, rfl⟩ fun hs => absurd (h.opened hmem) hs
    subst hi
    exact h.form.requeue hmem _
  · exact h

theorem pollInv_beginFrame {s : State} (h : PollInv s) (hc : canFrame s = true) : PollInv (beginFrame s) := by
  have hlt : s.inFlightCount < 8 := by
    unfold canFrame at hc
    simp only [Bool.and_eq_true, decide_eq_true_eq] at hc
    exact hc.1.1.2
  unfold beginFrame
  split
  · split
    · rename_i e k he _ _ m _
      have hmem : e ∈ s.poll.list := List.mem_of_find?_eq_some he
      have hmod (f : PollEntry → PollEntry) (hf : ∀ x, (f x).index = x.index) : PollInv (modPoll e.index f s) :=
        pollInv_of_forms h (h.form.modify _ hf
          ((countP_modify_le _ _ _ _ h.form.1).trans hlt)) ⟨rfl, rfl⟩ fun hs => absurd (h.opened hmem) hs
      unfold startFrame
      exact pollInv_about.keep (Frame.foldl (fun u q => give_frame .pollUnit q u) _ _)
        (pollInv_about.keep (modMeter_frame _ (by intro _; rfl)) (pollInv_about.keep (ring_frame _ _ _)
          (pollInv_setTx k _ (hmod _ fun _ => rfl)) (by decide)) (by decide)) (by decide)
    · exact h
  · exact h

theorem pollInv_judgeRules : JudgeRules PollInv where
  quiet := fun {s u} h hf => pollInv_about s u (fun p hp => by
    have : p ∉ judgeQuiet := by revert hp; cases p <;> decide
    exact hf p this) h
  verdict := fun _ _ _ _ _ h => pollInv_about.keep (finalVerdict_frame _ _ _ _ _) h (by decide)
  causes := fun _ _ _ h => pollInv_about.keep (addCauses_frame _ _ _) h (by decide)
  fixed := fun i c matched s h => by
    refine pollInv_removePoll h i (new := .read) (by decide) ?_ ?_ ?_
    · simp [endPoll, removePoll, fixReading]
    · show (fixReading i c matched s).meterStates = _
      unfold fixReading
      rw [meterStates_setMeterState, meterStates_modMeter]
      intro _
      rfl
    · exact setMeterState_load _ _ _
  heard := fun i old {s} hi h => by
    refine pollInv_of_forms h ?_ (setMeterState_load _ _ _) fun hs => ?_
    · rw [meterStates_setMeterState, setMeterState_poll]
      exact h.form.setState hi (by cases old <;> decide)
    · rw [setMeterState_poll]
      exact h.empty hs
  defer := fun _ _ h => pollInv_about.keep (deferBurst_frame _ _) h (by decide)

/-! ### The commands -/

theorem pollInv_cutPoll (e : PollEntry) {s : State} (h : PollInv s) :
    PollInv (cutPoll s e) ∧ (cutPoll s e).poll.list = s.poll.list.filter fun x => decide (x.index ≠ e.index) := by
  unfold cutPoll
  split
  · rename_i m _
    have hn : closedPollState m ≠ .polling := by
      unfold closedPollState
      split <;> decide
    refine ⟨pollInv_removePoll h e.index hn ?_ (meterStates_setMeterState _ _ _) (setMeterState_load _ _ _), ?_⟩
    · simp [removePoll]
    · simp [removePoll]
  · rename_i hm
    refine ⟨pollInv_removePoll h e.index (new := .expected) (by decide) rfl ?_ ⟨rfl, rfl⟩, rfl⟩
    have hlen : s.meterStates.length ≤ e.index := by simpa [State.meterStates] using hm
    exact (List.set_eq_of_length_le hlen).symm

/-- The close removes the entries it walks over. -/
theorem pollInv_cuts (es : List PollEntry) : ∀ {s : State}, PollInv s → PollInv (es.foldl cutPoll s) ∧
    ∀ e ∈ (es.foldl cutPoll s).poll.list, e ∈ s.poll.list ∧ e.index ∉ es.map PollEntry.index := by
  induction es with
  | nil => exact fun h => ⟨h, fun e he => ⟨he, List.not_mem_nil⟩⟩
  | cons x es ih =>
    intro s h
    obtain ⟨hx, hl⟩ := pollInv_cutPoll x h
    obtain ⟨hs, hall⟩ := ih hx
    refine ⟨hs, fun e he => ?_⟩
    obtain ⟨hmem, hn⟩ := hall e he
    rw [hl, List.mem_filter, decide_eq_true_eq] at hmem
    exact ⟨hmem.1, by simp [hmem.2, hn]⟩

theorem pollInv_cutPolls {s : State} (h : PollInv s) : PollInv (cutPolls s) ∧ (cutPolls s).poll.list = [] := by
  obtain ⟨hs, hall⟩ := pollInv_cuts s.poll.list h
  refine ⟨hs, List.eq_nil_iff_forall_not_mem.mpr fun e he => ?_⟩
  obtain ⟨hmem, hn⟩ := hall e he
  exact hn (List.mem_map_of_mem hmem)

theorem cutPolls_state (s : State) : (cutPolls s).route.state = s.route.state :=
  ((Frame.foldl cutPoll_frame s.poll.list s) .load (by decide)).1

theorem pollInv_requestMisses (misses : List (Nat × MissReason)) {s : State} (h : PollInv s)
    (ho : s.route.state = .opened) (hl : s.poll.list = []) : PollInv (requestMisses misses s) := by
  have hms : (requestMisses misses s).meterStates = s.meterStates := by
    simp [State.meterStates, requestMisses, Function.comp_def]
  rw [pollInv_iff, hms]
  refine ⟨h.form, fun _ => hl, fun x hx => ?_⟩
  have hx' : s.route.load = some x := hx
  rw [h.no_load (.inl ho)] at hx'
  cases hx'

theorem pollInv_routeCloseWork {s : State} (h : PollInv s) : PollInv (routeCloseWork s) := by
  unfold routeCloseWork
  split
  · exact pollInv_about.keep (respond_frame _ _ _) h (by decide)
  · rename_i ho
    have ho' : s.route.state = .opened := not_not.mp ho
    obtain ⟨hc, hl⟩ := pollInv_cutPolls (pollInv_leaveActive h ho')
    exact pollInv_about.keep (respond_frame _ _ _)
      (pollInv_requestMisses _ hc ((cutPolls_state _).trans ((leaveActive_state s).trans ho')) hl) (by decide)

theorem pollInv_segmentEnterWork (n : Word) {s : State} (h : PollInv s) : PollInv (segmentEnterWork n s) := by
  unfold segmentEnterWork
  split
  · exact pollInv_about.keep (respond_frame _ _ _) h (by decide)
  · split
    · exact pollInv_about.keep (respond_frame _ _ _) h (by decide)
    · rename_i ho _
      exact pollInv_about.keep ((enterSegment_frame _ _).seq (respond_frame _ _ _)) (pollInv_leaveActive h (not_not.mp ho)) (by decide)

theorem pollInv_segmentLeaveWork {s : State} (h : PollInv s) : PollInv (segmentLeaveWork s) := by
  unfold segmentLeaveWork
  split
  · exact pollInv_about.keep (respond_frame _ _ _) h (by decide)
  · split
    · exact pollInv_about.keep (respond_frame _ _ _) h (by decide)
    · rename_i ho _
      exact pollInv_about.keep (respond_frame _ _ _) (pollInv_leaveActive h (not_not.mp ho)) (by decide)

theorem pollInv_pollNowWork (id : Word) {s : State} (h : PollInv s) : PollInv (pollNowWork id s) := by
  have hrefuse (st : Byte) (r : List Word) : PollInv (respond st r s) := pollInv_about.keep (respond_frame _ _ _) h (by decide)
  unfold pollNowWork
  split
  · exact hrefuse _ _
  · split
    · exact hrefuse _ _
    · split
      · exact hrefuse _ _
      · dsimp only
        split
        · exact hrefuse _ _
        · rename_i ho _ i _ _ m hm hst
          have hms : s.meterStates[i]? = some m.state := (meterStates_get s i m.state).mpr ⟨m, hm, rfl⟩
          refine pollInv_about.keep (respond_frame _ _ _) (pollInv_addPoll h (not_not.mp ho)
            (List.getElem?_eq_some_iff.mp hms).1 fun hp => hst (.inl ?_)) (by decide)
          rw [hms] at hp
          exact Option.some.inj hp

theorem pollInv_routeOpenWork {s : State} (h : PollInv s) : PollInv (routeOpenWork s) := by
  unfold routeOpenWork
  split
  · split
    · exact pollInv_about.keep (respond_frame _ _ _) h (by decide)
    · rename_i hs _
      rw [pollInv_iff] at h ⊢
      obtain ⟨hp, he, -⟩ := h
      refine ⟨hp, he, fun x hx => ?_⟩
      have hx' : x = .number := (Option.some.inj hx).symm
      rw [if_pos hx']
      exact hs
  · exact pollInv_about.keep (respond_frame _ _ _) h (by decide)
  · exact pollInv_about.keep (respond_frame _ _ _) h (by decide)
  · exact pollInv_about.keep (respond_frame _ _ _) h (by decide)

theorem pollInv_runCommand (c : HostCommand) (prm : List Word) {s : State} (h : PollInv s) :
    PollInv (runCommand c prm s) := by
  have hf := runCommand_frame c prm s
  cases c with
  | routeOpen => exact pollInv_routeOpenWork h
  | routeClose => exact pollInv_routeCloseWork h
  | segmentEnter => exact pollInv_segmentEnterWork _ h
  | segmentLeave => exact pollInv_segmentLeaveWork h
  | pollNow => exact pollInv_pollNowWork _ h
  | _ => exact pollInv_about.keep hf h (by decide)

theorem pollInv_commitCommand {s : State} (h : PollInv s) : PollInv (commitCommand s) := by
  rcases commitCommand_cases s with hf | ⟨c, prm, t, ht, -, he⟩
  · exact pollInv_about.keep hf h (by decide)
  · rw [he]
    exact pollInv_runCommand c prm (pollInv_about.keep ht h (by decide))

theorem pollInv_access (a : Access) {s : State} (h : PollInv s) : PollInv (takeAccess a s) := by
  have hr : AccessRules a.addr (fun _ => True) PollInv :=
    { quiet := fun h hf => pollInv_about.keep hf h (by decide)
      store := fun _ _ _ h => pollInv_about.keep (storeWrite_frame _ _ _ _) h (by decide)
      shadow := fun _ _ _ h => pollInv_about.keep (takeShadow_frame _ _ _ _) h (by decide)
      unqueue := fun h => pollInv_about.keep (unqueued_frame _ _) h (by decide)
      cancel := fun win e _ h => by
        unfold cancelNotice
        split
        · exact pollInv_about.keep (cancelVerdict_frame _ _ _) h (by decide)
        · split
          · exact pollInv_withdrawFrame _ h
          · exact h
        · exact h
      commit := fun h => pollInv_commitCommand h
      position := fun h => pollInv_about.keep (commitPosition_frame _) h (by decide)
      arm := fun _ _ h => pollInv_about.keep (armSlot_frame _ _) h (by decide)
      capture := fun _ _ _ h _ => pollInv_about.keep (takeCaptureCommit_frame _ _ _ _) h (by decide)
      report := fun k v _ h => pollInv_takeReport k v h
      verdict := fun _ _ _ h => pollInv_about.keep (verdictRead_frame _ _ _) h (by decide)
      fetch := fun _ _ _ h => pollInv_about.keep (fetchRead_frame _ _ _) h (by decide) }
  exact takeAccess_keeps hr h fun _ _ _ _ => trivial

/-! ### The load -/

/-- A directory that loses no entry's state but those of a load, in which no meter is polled. -/
theorem pollInv_unpolled {s : State} (hl : s.poll.list = []) (hm : ∀ i : Nat, s.meterStates[i]? ≠ some .polling)
    (hload : ∀ x, s.route.load = some x → s.route.state = if x = .number then .noRoute else .loading) : PollInv s := by
  rw [pollInv_iff, hl]
  exact ⟨pollForm_nil_iff.mpr hm, fun _ => rfl, hload⟩

theorem PollInv.unpolled {s : State} (h : PollInv s) (hs : s.route.state ≠ .opened) (i : Nat) :
    s.meterStates[i]? ≠ some .polling := by
  have hf := h.form
  rw [h.empty hs] at hf
  exact pollForm_nil_iff.mp hf i

theorem pollInv_failLoad (status : Byte) (at_ detail : Word) (route : Half) {s : State} (hl : s.poll.list = []) :
    PollInv (failLoad status at_ detail route s) := by
  unfold failLoad
  refine pollInv_about.keep ((flushDeferred_frame _).seq (respond_frame _ _ _)) ?_ (by decide)
  exact pollInv_unpolled hl (fun i => by simp [State.meterStates]) fun _ hx => nomatch hx

theorem pollInv_takeNumber (d : Disturb) {s : State} (h : PollInv s) (hl : s.route.load = some .number) :
    PollInv (takeNumber d s) := by
  have hread : PollInv (completeRead d s) := pollInv_about.keep (completeRead_frame d s) h (by decide)
  obtain ⟨hst, hld⟩ := completeRead_frame d s .load (by decide)
  have hs : (completeRead d s).route.state = .noRoute := by
    obtain ⟨-, -, h2⟩ := (pollInv_iff s).mp h
    exact hst.trans (h2 _ hl)
  have hne : (completeRead d s).route.state ≠ .opened := hs ▸ by decide
  have hrefuse (st : Byte) (n : Half) : PollInv (refuseOpen st n (completeRead d s)) :=
    pollInv_about.keep (respond_frame _ _ _)
      (pollInv_unpolled (hread.empty hne) (hread.unpolled hne) fun _ hx => nomatch hx) (by decide)
  unfold takeNumber
  dsimp only
  split
  · exact hrefuse _ _
  · split
    · exact hrefuse _ _
    · split
      · exact hrefuse _ _
      · split
        · exact hrefuse _ _
        · refine pollInv_unpolled (hread.empty hne) (hread.unpolled hne) fun x hx => ?_
          rw [← Option.some.inj hx]
          rfl

/-- A load that goes on in LOADING. -/
theorem pollInv_loading {s : State} {x : Load} (hl : s.poll.list = []) (hm : ∀ i : Nat, s.meterStates[i]? ≠ some .polling)
    (hs : s.route.state = .loading) (hx : x ≠ .number) : PollInv { s with route := { s.route with load := some x } } := by
  refine pollInv_unpolled hl hm fun y hy => ?_
  rw [if_neg fun hn => hx ((Option.some.inj hy).trans hn)]
  exact hs

theorem pollInv_closeLoad (route : Half) (h : List Word) (crc : Word) {s : State} (hl : s.poll.list = [])
    (hm : ∀ i : Nat, s.meterStates[i]? ≠ some .polling) : PollInv (closeLoad route h crc s) := by
  unfold closeLoad
  split
  · unfold succeedLoad
    exact pollInv_about.keep (respond_frame _ _ _) (pollInv_unpolled hl hm fun _ hx => nomatch hx) (by decide)
  · exact pollInv_failLoad _ _ _ _ hl

theorem pollInv_checkEntry (route : Half) (h : List Word) (i : Nat) (ws : List Word) (crc : Word) {s : State}
    (hl : s.poll.list = []) (hm : ∀ i : Nat, s.meterStates[i]? ≠ some .polling) (hs : s.route.state = .loading) :
    PollInv (checkEntry route h i ws crc s) := by
  have hadd (img : MeterImage) (j : Nat) : (s.meterStates ++ [(newMeter img).state])[j]? ≠ some .polling := by
    rw [List.getElem?_append]
    split
    · exact hm j
    · rw [List.getElem?_singleton]
      split
      · exact fun hc => absurd (Option.some.inj hc) (by simp [newMeter])
      · exact nofun
  have hdir (img : MeterImage) : ({ s with dir := s.dir ++ [newMeter img] } : State).meterStates =
      s.meterStates ++ [(newMeter img).state] := by simp [State.meterStates]
  unfold checkEntry
  dsimp only
  split
  · exact pollInv_failLoad _ _ _ _ hl
  · split
    · exact pollInv_failLoad _ _ _ _ hl
    · split
      · exact pollInv_failLoad _ _ _ _ hl
      · rename_i stored _ _ _
        split
        · exact pollInv_loading (s := { s with dir := s.dir ++ [newMeter (entryImage ws stored)] }) hl
            (hdir _ ▸ hadd _) hs nofun
        · exact pollInv_closeLoad _ _ _ hl (hdir _ ▸ hadd _)

/-- The load past the route number stands in LOADING, where nothing is polled. -/
theorem PollInv.in_loading {s : State} (h : PollInv s) {x : Load} (hl : s.route.load = some x) (hx : x ≠ .number)
    (d : Disturb) : (completeRead d s).route.state = .loading ∧ (completeRead d s).poll.list = [] ∧
      ∀ i : Nat, (completeRead d s).meterStates[i]? ≠ some .polling := by
  have hread : PollInv (completeRead d s) := pollInv_about.keep (completeRead_frame d s) h (by decide)
  have hst : (completeRead d s).route.state = s.route.state := (completeRead_frame d s .load (by decide)).1
  obtain ⟨-, -, h2⟩ := (pollInv_iff s).mp h
  have hs : (completeRead d s).route.state = .loading := hst.trans ((h2 _ hl).trans (if_neg hx))
  have hne : (completeRead d s).route.state ≠ .opened := hs ▸ by decide
  exact ⟨hs, hread.empty hne, hread.unpolled hne⟩

theorem pollInv_headerStep (d : Disturb) {s : State} (h : PollInv s) : PollInv (headerStep d s) := by
  unfold headerStep
  split
  · rename_i route words crc hl
    obtain ⟨hs, hp, hm⟩ := h.in_loading hl nofun d
    unfold takeHeader
    dsimp only
    split
    · exact pollInv_failLoad _ _ _ _ hp
    · split
      · exact pollInv_loading hp hm hs nofun
      · split
        · exact pollInv_loading hp hm hs nofun
        · exact pollInv_failLoad _ _ _ _ hp
  · exact h

theorem pollInv_entryStep (d : Disturb) {s : State} (h : PollInv s) : PollInv (entryStep d s) := by
  unfold entryStep
  split
  · rename_i route hdr i words crc hl
    obtain ⟨hs, hp, hm⟩ := h.in_loading hl nofun d
    unfold takeEntry
    dsimp only
    split
    · exact pollInv_failLoad _ _ _ _ hp
    · split
      · exact pollInv_loading hp hm hs nofun
      · exact pollInv_checkEntry _ _ _ _ _ hp hm hs
  · exact h

/-! ### The end of the route, and every event -/

theorem pollInv_headerIssued (k : Nat) {s : State} (h : PollInv s) : PollInv (headerIssued k s) := by
  unfold headerIssued
  split
  · exact h
  · split
    · dsimp only
      have hrow (f : RecRow → RecRow) : PollInv (modRow k f s) := pollInv_about.keep (modRow_frame k f s) h (by decide)
      split
      · rename_i hc
        unfold completeRoute
        have hne : s.route.state ≠ .opened := by rw [hc.2]; decide
        refine pollInv_about.keep (raise_frame _ _) (pollInv_unpolled ?_ (fun i => by simp [State.meterStates]) ?_) (by decide)
        · exact (congrArg Poll.list (modRow_poll _ _ _)).trans (h.empty hne)
        · intro x hx
          have hx' : s.route.load = some x := by simpa using hx
          rw [h.no_load (.inr hc.2)] at hx'
          cases hx'
      · exact hrow _
    · exact h

theorem pollInv_issueHead {s : State} (h : PollInv s) : PollInv (issueHead s) := by
  rcases issueHead_cases s with ⟨-, he⟩ | ⟨e, es, -, he | ⟨k, he⟩⟩ <;> rw [he]
  · exact h
  · exact pollInv_about.keep (issued_frame e es s) h (by decide)
  · exact pollInv_headerIssued k (pollInv_about.keep (issued_frame e es s) h (by decide))

theorem pollInv_effect {k : EventKind} {s u : State} (h : PollInv s) (he : Effect k s u) : PollInv u := by
  have hf := he.frame
  cases he with
  | arrive a =>
    rcases arrive_cases a s with ha | ⟨-, ha⟩
    · exact pollInv_about.keep ha h (by decide)
    · rw [ha]
      exact pollInv_access a h
  | takeHeld hdue =>
    obtain ⟨-, x, -, ha⟩ := takeHeld_due hdue
    rw [ha]
    exact pollInv_access x.access (pollInv_about.keep (held_frame none s) h (by decide))
  | judgeHead hc => exact judgement_keeps pollInv_about pollInv_judgeRules h (.judgeHead hc) (by decide)
  | judgeDeferred hc => exact judgement_keeps pollInv_about pollInv_judgeRules h (.judgeDeferred hc) (by decide)
  | takeNumber d hl => exact pollInv_takeNumber d h hl
  | headerStep d => exact pollInv_headerStep d h
  | entryStep d => exact pollInv_entryStep d h
  | issueHead => exact pollInv_issueHead h
  | beginFrame hc => exact pollInv_beginFrame h hc
  | expire i => exact pollInv_expire i h
  | release i => exact pollInv_release i h
  | _ => exact pollInv_about.keep hf h (by decide)

theorem pollInv_reset {s : State} (hl : s.poll.list = []) (hd : s.dir = []) (hr : s.route.load = none) : PollInv s :=
  pollInv_unpolled hl (fun i => by simp [State.meterStates, hd]) fun x hx => by rw [hr] at hx; cases hx

theorem step_keeps_pollInv {s t : State} (h : PollInv s) (hs : step s = .next t) : PollInv t :=
  step_keeps (P := PollInv) (fun _ _ h => h) (fun _ _ _ => pollInv_reset rfl rfl rfl) (fun _ => pollInv_reset rfl rfl rfl)
    (fun h he => pollInv_about.keep (finish_frame _ _) (pollInv_effect h he) (by decide)) h hs

/-- Settles O12: the lists grow only where they have a place, the counters are set within their ranges, and a meter is polled
and joins the Poll List, or leaves both, at one event. -/
theorem stepKeepsTheListAndCounterBounds : Obligations.StepKeepsTheListAndCounterBounds :=
  ⟨fun _ _ => step_keeps_listInv, fun _ _ => step_keeps_counterInv, fun _ _ => step_keeps_pollInv⟩

end Sys2Proof.Machine
end

section
/-! The canonical form of the data (R129, R149): store, shadow and TX states, and the slot state table. -/
namespace Sys2Proof.Machine

/-! ### Store, shadow words and TX slot states -/

/-- The sparse data of the path and the Poll Unit keep their canonical form. -/
def PathForm (s : State) : Prop :=
  Memory.wf s.store = true ∧ canonical 0 s.path.shadow = true ∧ canonical TxState.free s.poll.tx = true

theorem dataInv_iff (s : State) : DataInv s ↔ PathForm s ∧ SlotForm s := by
  unfold DataInv PathForm
  simp only [and_assoc]

theorem pathForm_about : About [.store, .shadow, .pollTx] PathForm := by
  intro s t hs ⟨h1, h2, h3⟩
  have hst : t.store = s.store := hs .store (by decide)
  have hsh : t.path.shadow = s.path.shadow := hs .shadow (by decide)
  have htx : t.poll.tx = s.poll.tx := hs .pollTx (by decide)
  exact ⟨hst ▸ h1, hsh ▸ h2, htx ▸ h3⟩

theorem pathForm_setTx (k : Nat) (v : TxState) {s : State} (h : PathForm s) : PathForm (setTx k v s) :=
  ⟨h.1, h.2.1, canonical_setD _ _ _ _ h.2.2⟩

theorem pathForm_takeShadow (addr : Nat) (data : Word) (be : BitVec 4) {s : State} (h : PathForm s) :
    PathForm (takeShadow addr data be s) :=
  ⟨h.1, canonical_setD _ _ _ _ h.2.1, h.2.2⟩

theorem pathForm_takeReport (k : Nat) (v : Word) {s : State} (h : PathForm s) : PathForm (takeReport k v s) := by
  have htx : PathForm (setTx k .free s) := pathForm_setTx k _ h
  unfold takeReport
  split
  · exact h
  · split
    · split
      · exact pathForm_about.keep ((modPoll_frame _ _ _).seq (sent_frame _ _)) htx (by decide)
      · exact htx
    · split
      · split
        · exact pathForm_about.keep (failAttempt_frame _ _) htx (by decide)
        · exact htx
      · exact h

theorem pathForm_cancelNotice (win : Window) (e : QEntry) {s : State} (h : PathForm s) : PathForm (cancelNotice win s e) := by
  unfold cancelNotice
  split
  · exact pathForm_about.keep (cancelVerdict_frame _ _ _) h (by decide)
  · split
    · unfold withdrawFrame
      dsimp only
      split
      · exact pathForm_about.keep (modPoll_frame _ _ _) (pathForm_setTx _ _ h) (by decide)
      · exact pathForm_setTx _ _ h
    · exact h
  · exact h

theorem pathForm_access (a : Access) {s : State} (h : PathForm s) : PathForm (takeAccess a s) := by
  have hr : AccessRules a.addr (fun _ => True) PathForm :=
    { quiet := fun h hf => pathForm_about.keep hf h (by decide)
      store := fun _ _ _ h => ⟨Memory.wf_write _ _ _ _ h.1, h.2.1, h.2.2⟩
      shadow := fun _ _ _ h => pathForm_takeShadow _ _ _ h
      unqueue := fun h => pathForm_about.keep (unqueued_frame _ _) h (by decide)
      cancel := fun win e _ h => pathForm_cancelNotice win e h
      commit := fun h => pathForm_about.keep (commitCommand_frame _) h (by decide)
      position := fun h => pathForm_about.keep (commitPosition_frame _) h (by decide)
      arm := fun _ _ h => pathForm_about.keep (armSlot_frame _ _) h (by decide)
      capture := fun k w _ h _ => by
        rw [takeCaptureCommit_eq]
        exact pathForm_about.keep (completeSlot_frame _ _)
          (pathForm_takeShadow _ _ _ ⟨Memory.wf_writeOwn _ _ _ h.1, h.2.1, h.2.2⟩) (by decide)
      report := fun k v _ h => pathForm_takeReport k v h
      verdict := fun _ _ _ h => pathForm_about.keep (verdictRead_frame _ _ _) h (by decide)
      fetch := fun _ _ _ h => pathForm_about.keep (fetchRead_frame _ _ _) h (by decide) }
  exact takeAccess_keeps hr h fun _ _ _ _ => trivial

theorem pathForm_issueHead {s : State} (h : PathForm s) : PathForm (issueHead s) := by
  have hi (e : QEntry) (es : List QEntry) : PathForm (issued e es s) := ⟨Memory.wf_writeOwn _ _ _ h.1, h.2.1, h.2.2⟩
  rcases issueHead_cases s with ⟨-, he⟩ | ⟨e, es, -, he | ⟨k, he⟩⟩ <;> rw [he]
  · exact h
  · exact hi e es
  · exact pathForm_about.keep (headerIssued_frame k _) (hi e es) (by decide)

theorem pathForm_beginFrame {s : State} (h : PathForm s) : PathForm (beginFrame s) := by
  unfold beginFrame
  split
  · split
    · unfold startFrame
      exact pathForm_about.keep (Frame.foldl (fun u q => give_frame .pollUnit q u) _ _)
        (pathForm_about.keep (modMeter_frame _ (by intro _; rfl)) (pathForm_about.keep (ring_frame _ _ _)
          (pathForm_setTx _ _ (pathForm_about.keep (modPoll_frame _ _ _) h (by decide))) (by decide)) (by decide)) (by decide)
    · exact h
  · exact h

theorem pathForm_effect {k : EventKind} {s u : State} (h : PathForm s) (he : Effect k s u) : PathForm u := by
  have hf := he.frame
  cases he with
  | arrive a =>
    rcases arrive_cases a s with ha | ⟨-, ha⟩
    · exact pathForm_about.keep ha h (by decide)
    · rw [ha]
      exact pathForm_access a h
  | takeHeld hdue =>
    obtain ⟨-, x, -, ha⟩ := takeHeld_due hdue
    rw [ha]
    exact pathForm_access x.access h
  | issueHead => exact pathForm_issueHead h
  | beginFrame => exact pathForm_beginFrame h
  | _ => exact pathForm_about.keep hf h (by decide)

/-! ### What the records' deeds do, once for the properties of the slot table -/

/-- Between batches nothing is listed. -/
def unbatched (s : State) : State := { s with up := { s.up with batch := none } }

/-- The scan stands at slot `k`. -/
def ScanAt (s : State) (k : Nat) : Prop :=
  (∃ ws, s.sm.scan = .slots k ws) ∨ ∃ rest meter, s.sm.scan = .rebuild (k :: rest) meter

theorem ScanAt.not_done {s : State} {k : Nat} (h : ScanAt s k) : s.sm.scan ≠ .done := by
  rcases h with ⟨ws, h⟩ | ⟨rest, meter, h⟩ <;> rw [h] <;> exact nofun

/-- The scan's places lie below slot 8192. -/
def ScanForm (sc : Scan) : Prop :=
  (∀ k ws, sc = .slots k ws → k < 8192) ∧ ∀ l meter, sc = .rebuild l meter → ∀ k ∈ l, k < 8192

/-- The deeds on the slot table, the scan and the batch, and what keeps `P` through each. -/
structure SlotRules (P : State → Prop) : Prop where
  about : About [.slots, .scan, .up] P
  mark : ∀ k {f : RecRow → RecRow} {s}, (∀ r, (f r).state = r.state) → P s → P (modRow k f s)
  issue : ∀ {k r s}, s.rowOf k = some r → r.state = .writing → P s →
    P (modRow k (fun x => { x with state := .stored }) s)
  take : ∀ req rest {s}, canCompose s = true → P s → P (takeSlot req rest (lowestFree 0 s.sm.slots) s)
  begin : ∀ max {s}, s.sm.scan = .done → s.up.batch = none → max ≠ 0 → max ≤ 512 → s.storedCount ≠ 0 → P s →
    P (acceptBegin max s)
  back : ∀ {b s}, s.up.batch = some b → P s → P (unbatched (moveSlots b.items .stored s))
  gone : ∀ {b s}, s.up.batch = some b → P s → P (unbatched (b.items.foldl releaseSlot s))
  items : ∀ {b b' : Batch} {s : State}, s.up.batch = some b → b'.id = b.id →
    (b'.items.map fun it => it.slot) = (b.items.map fun it => it.slot) → P s →
    P { s with up := { s.up with batch := some b' } }
  find : ∀ k row {s}, ScanAt s k → (∀ r, row = .record r → r.state = .stored) → P s → P (setFinding k row s)
  scan : ∀ sc {s : State}, s.sm.scan ≠ .done → sc ≠ .done → (SlotForm s → ScanForm sc) → P s →
    P { s with sm := { s.sm with scan := sc } }
  finish : ∀ {s : State}, s.sm.scan ≠ .done → P s → P (endScan s)

theorem insertSeq_perm (x : Nat × Word) (ys : List (Nat × Word)) : (insertSeq x ys).Perm (x :: ys) := by
  induction ys with
  | nil => exact .refl _
  | cons y ys ih =>
    unfold insertSeq
    split
    · exact .refl _
    · exact (ih.cons y).trans (.swap x y ys)

/-- R141: the order changes, the slots do not. -/
theorem sortSeq_perm (xs : List (Nat × Word)) : (sortSeq xs).Perm xs := by
  have hfold (ys : List (Nat × Word)) : (xs.foldl (fun ys x => insertSeq x ys) ys).Perm (xs ++ ys) := by
    induction xs generalizing ys with
    | nil => exact .refl _
    | cons x xs ih =>
      exact (ih _).trans (((insertSeq_perm x ys).append_left xs).trans List.perm_middle)
  unfold sortSeq
  simpa only [List.append_nil] using hfold []

theorem mem_slotsWhere {p : RecRow → Bool} {rows : List (Nat × SlotRow)} {x : Nat × Word} :
    x ∈ slotsWhere p rows ↔ ∃ r, (x.1, SlotRow.record r) ∈ rows ∧ p r = true ∧ x.2 = r.seq := by
  obtain ⟨k, seq⟩ := x
  unfold slotsWhere
  rw [List.mem_filterMap]
  constructor
  · rintro ⟨⟨j, row⟩, hmem, hx⟩
    cases row with
    | quarantined => cases hx
    | record r =>
      simp only [Option.ite_none_right_eq_some, Option.some.injEq, Prod.mk.injEq] at hx
      obtain ⟨hp, rfl, rfl⟩ := hx
      exact ⟨r, hmem, hp, rfl⟩
  · rintro ⟨r, hmem, hp, rfl⟩
    exact ⟨_, hmem, by simp [hp]⟩

theorem mem_rebuildList {fs : List (Nat × SlotRow)} {k : Nat} (h : k ∈ rebuildList fs) : ∃ e ∈ fs, e.1 = k := by
  unfold rebuildList at h
  rw [List.mem_map] at h
  obtain ⟨x, hx, rfl⟩ := h
  obtain ⟨r, hr, -, -⟩ := mem_slotsWhere.mp ((sortSeq_perm _).mem_iff.mp hx)
  exact ⟨_, hr, rfl⟩

theorem decideSlot_scan (k : Nat) (w0 w1 w2 : Word) (s : State) : (decideSlot k w0 w1 w2 s).sm.scan = s.sm.scan := by
  unfold Machine.decideSlot
  split
  · rfl
  · split
    · unfold foundRecord
      dsimp only
      split <;> rfl
    · rfl

theorem completeRead_scan (d : Disturb) (s : State) : (completeRead d s).sm.scan = s.sm.scan :=
  (completeRead_frame d s .scan (by decide)).1

section
variable {P : State → Prop} (hr : SlotRules P)
include hr

theorem SlotRules.keep {qs : List Part} {s t : State} (hf : Frame qs s t) (h : P s)
    (hd : ∀ p ∈ [Part.slots, Part.scan, Part.up], p ∉ qs) : P t :=
  hr.about.keep hf h hd

/-! #### Marks -/

theorem SlotRules.reLock (m : Meter) {s : State} (h : P s) : P (reLock m s) := by
  have hm (k : Nat) : P (modRow k (fun x => { x with locked := true }) s) := hr.mark k (fun _ => rfl) h
  unfold Machine.reLock
  split
  · exact h
  · split
    · exact h
    · split
      · dsimp only
        split
        · exact hr.keep (given_frame _ _ _ _ _ _ _) (hm _) (by decide)
        · exact hr.keep (giveData_frame _ _ _ _) (hm _) (by decide)
      · exact h

theorem SlotRules.addCauses (i : Nat) (set : Byte) {s : State} (h : P s) : P (addCauses i set s) := by
  have hm (f : Meter → Meter) {t : State} (hf : ∀ m, (f m).state = m.state) (ht : P t) : P (modMeter i f t) :=
    hr.keep (modMeter_frame t hf) ht (by decide)
  unfold Machine.addCauses
  split
  · exact h
  · dsimp only
    split
    · exact h
    · split
      · unfold lateCauses
        split
        · exact hr.keep (mergeTamper_frame _ _ _) (hm _ (fun _ => rfl) h) (by decide)
        · exact hr.reLock _ (hr.keep (createTamper_frame _ _) (hr.keep (backlog_frame _ _)
            (hm _ (fun _ => rfl) (hm _ (fun _ => rfl) h)) (by decide)) (by decide))
      · split
        · exact hr.keep (createTamper_frame _ _) (hm _ (fun _ => rfl) h) (by decide)
        · exact hr.keep (mergeTamper_frame _ _ _) (hm _ (fun _ => rfl) h) (by decide)

theorem SlotRules.judgeRules : JudgeRules P where
  quiet := fun h hf => hr.keep hf h (by decide)
  verdict := fun _ _ _ _ _ h => hr.keep (finalVerdict_frame _ _ _ _ _) h (by decide)
  causes := fun i set _ h => hr.addCauses i set h
  fixed := fun _ _ _ _ h => hr.keep ((fixReading_frame _ _ _ _).seq (endPoll_frame _ _ _)) h (by decide)
  heard := fun _ _ _ _ h => hr.keep (setMeterState_frame _ _ _) h (by decide)
  defer := fun _ _ h => hr.keep (deferBurst_frame _ _) h (by decide)

theorem SlotRules.tamperAtComposition (i k : Nat) (note : Bool) {s : State} (h : P s) :
    P (tamperAtComposition i k note s) := by
  unfold Machine.tamperAtComposition
  split
  · exact h
  · dsimp only
    exact hr.keep (tamper_frame _ _) (hr.mark k (fun _ => rfl) (hr.keep (modMeter_frame s (by intro _; rfl)) h (by decide))) (by decide)

theorem SlotRules.markComposed (req : Request) (k : Nat) (seq : Word) {s : State} (h : P s) :
    P (markComposed req k seq s) := by
  cases req with
  | reading i => exact hr.tamperAtComposition _ _ _ (hr.keep (modMeter_frame s (by intro _; rfl)) h (by decide))
  | miss i r => exact hr.tamperAtComposition _ _ _ (hr.keep (modMeter_frame s (by intro _; rfl)) h (by decide))
  | note i => exact hr.tamperAtComposition _ _ _ h
  | summary => exact h

theorem SlotRules.compose {s : State} (hc : canCompose s = true) (h : P s) : P (compose s) := by
  unfold Machine.compose
  split
  · exact h
  · rename_i req rest _
    dsimp only
    have hm := hr.markComposed req (lowestFree 0 s.sm.slots) s.sm.nextSeq (hr.take req rest hc h)
    split
    · exact hr.keep (raise_frame _ _) (hr.keep (given_frame _ _ _ _ _ _ _) hm (by decide)) (by decide)
    · exact hr.keep (given_frame _ _ _ _ _ _ _) hm (by decide)

theorem SlotRules.ackEntry (s : State) (e : TamperEntry) (h : P s) : P (ackEntry s e) := by
  unfold Machine.ackEntry
  split
  · exact hr.keep (given_frame _ _ _ _ _ _ _) (hr.mark _ (fun _ => rfl) h) (by decide)
  · split
    · exact hr.keep (modMeter_frame s (by intro _; rfl)) h (by decide)
    · exact h

theorem SlotRules.tamperAckWork (k : Word) {s : State} (h : P s) : P (tamperAckWork k s) := by
  unfold Machine.tamperAckWork
  dsimp only
  split
  · exact hr.keep (respond_frame _ _ _) h (by decide)
  · exact hr.keep (answered_frame _ _ _) (foldl_keeps hr.ackEntry _ (hr.keep (tamper_frame _ s) h (by decide))) (by decide)

/-! #### The issue -/

theorem SlotRules.headerIssued (k : Nat) {s : State} (h : P s) : P (headerIssued k s) := by
  unfold Machine.headerIssued
  split
  · exact h
  · split
    · dsimp only
      have hi := hr.issue ‹_› ‹_› h
      split
      · exact hr.keep (completeRoute_frame _) hi (by decide)
      · exact hi
    · exact h

theorem SlotRules.issueHead {s : State} (h : P s) : P (issueHead s) := by
  rcases issueHead_cases s with ⟨-, he⟩ | ⟨e, es, -, he | ⟨k, he⟩⟩ <;> rw [he]
  · exact h
  · exact hr.keep (issued_frame e es s) h (by decide)
  · exact hr.headerIssued k (hr.keep (issued_frame e es s) h (by decide))

/-! #### The batch -/

theorem SlotRules.fetchRead (k w : Nat) {s : State} (h : P s) : P (fetchRead k w s) := by
  have hslots (items : List BatchItem) : ((markFetched k w items).map fun it => it.slot) = items.map fun it => it.slot := by
    unfold markFetched
    rw [List.map_map]
    refine List.map_congr_left fun it _ => ?_
    simp only [Function.comp_apply]
    split <;> rfl
  unfold Machine.fetchRead
  split
  · exact h
  · rename_i b hb
    split
    · dsimp only
      split
      · exact hr.keep (giveManifest_frame _ _ _ _ _) (hr.items hb rfl (hslots _) h) (by decide)
      · exact hr.items hb rfl (hslots _) h
    · exact h

theorem SlotRules.buildWord (b : Batch) (it : BatchItem) (w : Word) {s : State} (hb : s.up.batch = some b) (h : P s) :
    P (buildWord b it w s) := by
  have hslots (v : Word) : ((b.items.modify b.place fun x => { x with crc := v }).map fun it => it.slot) =
      b.items.map fun it => it.slot := by
    apply List.ext_getElem?
    intro j
    rw [List.getElem?_map, List.getElem?_map, List.getElem?_modify]
    split <;> cases b.items[j]? <;> rfl
  unfold Machine.buildWord
  dsimp only
  split
  · exact hr.items hb rfl rfl h
  · have hg (v : Word) : P (giveEntry b.place it.slot v s) := hr.keep (giveEntry_frame _ _ _ _) h (by decide)
    split
    · exact hr.items (s := giveEntry b.place it.slot _ s) hb rfl (hslots _) (hg _)
    · unfold endBuild
      exact hr.keep ((giveManifest_frame _ _ _ _ _).seq (respondUpload_frame _ _ _))
        (hr.items (s := giveEntry b.place it.slot _ s) hb rfl (hslots _) (hg _)) (by decide)

theorem SlotRules.buildStep (d : Disturb) {s : State} (h : P s) : P (buildStep d s) := by
  have hread : P (completeRead d s) := hr.keep (completeRead_frame d s) h (by decide)
  have hup : (completeRead d s).up = s.up := completeRead_frame d s .up (by decide)
  unfold Machine.buildStep
  split
  · exact h
  · rename_i b hb
    split
    · exact h
    · dsimp only
      split
      · unfold failBuild
        exact hr.keep ((giveManifest_frame _ _ _ _ _).seq (respondUpload_frame _ _ _))
          (hr.back (b := b) ((congrArg Upload.batch hup).trans hb) hread) (by decide)
      · exact hr.buildWord b _ _ ((congrArg Upload.batch hup).trans hb) hread

theorem SlotRules.uploadBeginWork (max : Word) {s : State} (hd : s.sm.scan = .done) (h : P s) : P (uploadBeginWork max s) := by
  have hrefuse (st : Byte) (r : List Word) : P (respond st r s) := hr.keep (respond_frame _ _ _) h (by decide)
  unfold Machine.uploadBeginWork
  split
  · exact hrefuse _ _
  · split
    · exact hrefuse _ _
    · split
      · exact hrefuse _ _
      · split
        · exact hrefuse _ _
        · rename_i hb _ hmax hs
          rw [not_or, not_lt] at hmax
          refine hr.begin _ hd (by simpa using hb) (fun h0 => hmax.1 ?_) hmax.2 hs h
          exact BitVec.eq_of_toNat_eq h0

theorem SlotRules.uploadAckWork (id digest : Word) {s : State} (h : P s) : P (uploadAckWork id digest s) := by
  have hrefuse (st : Byte) (r : List Word) : P (respond st r s) := hr.keep (respond_frame _ _ _) h (by decide)
  unfold Machine.uploadAckWork
  split
  · exact hrefuse _ _
  · rename_i b hb
    dsimp only
    split
    · exact hrefuse _ _
    · split
      · exact hrefuse _ _
      · split
        · exact hrefuse _ _
        · unfold releaseBatch
          exact hr.keep ((giveManifest_frame _ _ _ _ _).seq (respondUpload_frame _ _ _)) (hr.gone hb h) (by decide)

theorem SlotRules.uploadAbandonWork (id : Word) {s : State} (h : P s) : P (uploadAbandonWork id s) := by
  have hrefuse (st : Byte) (r : List Word) : P (respond st r s) := hr.keep (respond_frame _ _ _) h (by decide)
  unfold Machine.uploadAbandonWork
  split
  · exact hrefuse _ _
  · rename_i b hb
    split
    · exact hrefuse _ _
    · exact hr.keep ((giveManifest_frame _ _ _ _ _).seq (respondUpload_frame _ _ _)) (hr.back hb h) (by decide)

theorem SlotRules.runCommand (c : HostCommand) (prm : List Word) {s : State} (hd : s.sm.scan = .done) (h : P s) :
    P (runCommand c prm s) := by
  have hf := runCommand_frame c prm s
  cases c with
  | tamperAck => exact hr.tamperAckWork _ h
  | uploadBegin => exact hr.uploadBeginWork _ hd h
  | uploadAck => exact hr.uploadAckWork _ _ h
  | uploadAbandon => exact hr.uploadAbandonWork _ h
  | _ => exact hr.keep hf h (by decide)

/-! #### The scan -/

theorem SlotRules.rebuildFrom (rest : List Nat) {s : State} (hs : s.sm.scan ≠ .done)
    (hrest : SlotForm s → ∀ k ∈ rest, k < 8192) (h : P s) : P (rebuildFrom rest s) := by
  unfold Machine.rebuildFrom
  split
  · exact hr.finish hs h
  · refine hr.scan _ hs nofun (fun hform => ⟨nofun, fun l meter he => ?_⟩) h
    injection he with hl _
    exact hl ▸ hrest hform

theorem SlotRules.afterSlot (k : Nat) {s : State} (hs : s.sm.scan ≠ .done) (h : P s) : P (afterSlot k s) := by
  unfold Machine.afterSlot afterSlots
  split
  · rename_i hk
    refine hr.scan _ hs nofun (fun _ => ⟨fun j ws he => ?_, nofun⟩) h
    injection he with hj _
    exact hj ▸ hk
  · refine hr.rebuildFrom _ (s := { s with sm := { s.sm with nextSeq := resumeSeq s.sm.highest } }) hs (fun hform k hk => ?_)
      (hr.keep (qs := [.requests]) (by simp [frame_iff, Same]) h (by decide))
    obtain ⟨-, -, -, hf, -, -⟩ := hform
    obtain ⟨e, he, hek⟩ := mem_rebuildList hk
    exact hek ▸ hf e he

theorem SlotRules.decideSlot (k : Nat) (w0 w1 w2 : Word) {s : State} (hs : ScanAt s k) (h : P s) :
    P (decideSlot k w0 w1 w2 s) := by
  have hq {t : State} (ht : P t) (hst : ScanAt t k) : P (setFinding k .quarantined t) := hr.find k _ hst nofun ht
  unfold Machine.decideSlot
  split
  · exact h
  · split
    · unfold foundRecord
      dsimp only
      have hseq : P { s with sm := { s.sm with highest := some (higherSeq s.sm.highest w1) } } :=
        hr.keep (qs := [.requests]) (by simp [frame_iff, Same]) h (by decide)
      split
      · refine hr.find k _ hs (fun r he => ?_) (hr.keep (qs := [.requests, .rosters]) (by simp [frame_iff, Same]) h (by decide))
        injection he with he
        exact he ▸ rfl
      · exact hq hseq hs
    · exact hq h hs

theorem SlotRules.scanStep (d : Disturb) {s : State} (h : P s) : P (scanStep d s) := by
  have hread : P (completeRead d s) := hr.keep (completeRead_frame d s) h (by decide)
  unfold Machine.scanStep
  split
  · rename_i k words hk
    have hat : ScanAt (completeRead d s) k := .inl ⟨words, (completeRead_scan d s).trans hk⟩
    unfold takeScanWord
    dsimp only
    split
    · exact hr.afterSlot k hat.not_done (hr.find k _ hat nofun hread)
    · split
      · refine hr.afterSlot k ?_ (hr.decideSlot k _ _ _ hat hread)
        rw [decideSlot_scan]
        exact hat.not_done
      · refine hr.scan _ hat.not_done nofun (fun hform => ⟨fun j ws he => ?_, nofun⟩) hread
        injection he with hj _
        obtain ⟨-, -, -, -, hlt, -⟩ := hform
        exact hj ▸ hlt k words ((completeRead_scan d s).trans hk)
  · exact h

theorem SlotRules.rebuildStep (d : Disturb) {s : State} (h : P s) : P (rebuildStep d s) := by
  have hread : P (completeRead d s) := hr.keep (completeRead_frame d s) h (by decide)
  unfold Machine.rebuildStep
  split
  · rename_i k rest meter hk
    have hscan := (completeRead_scan d s).trans hk
    have hat : ScanAt (completeRead d s) k := .inr ⟨rest, meter, hscan⟩
    have hall {t : State} (ht : t.sm.scan = .rebuild (k :: rest) meter) (hform : SlotForm t) : ∀ j ∈ k :: rest, j < 8192 := by
      obtain ⟨-, -, -, -, -, hlt⟩ := hform
      exact hlt _ _ ht
    have hrest {t : State} (ht : t.sm.scan = .rebuild (k :: rest) meter) (hform : SlotForm t) : ∀ j ∈ rest, j < 8192 :=
      fun j hj => hall ht hform j (List.mem_cons_of_mem _ hj)
    unfold takeRebuildWord
    dsimp only
    split
    · refine hr.rebuildFrom rest hat.not_done (hrest hscan) ?_
      unfold quarantineFinding
      exact hr.find k _ (.inr ⟨rest, meter, hscan⟩) nofun
        (hr.keep (qs := [.rosters]) (by simp [frame_iff, Same]) hread (by decide))
    · split
      · refine hr.scan _ hat.not_done nofun (fun hform => ⟨nofun, fun l m he => ?_⟩) hread
        injection he with hl _
        exact hl ▸ hall hscan hform
      · exact hr.rebuildFrom rest hat.not_done (hrest hscan) (hr.keep (createTamper_frame _ _) hread (by decide))
  · exact h

/-! #### Every event -/

theorem SlotRules.effect {k : EventKind} {s u : State} (h : P s) (he : Effect k s u) : P u := by
  have hf := he.frame
  cases k with
  | access =>
    exact accessEvent_keeps hr.about (fun c prm _ hd => hr.runCommand c prm (of_decide_eq_true hd))
      (fun k w _ => hr.fetchRead k w) h he (by decide)
  | judgement => exact judgement_keeps hr.about hr.judgeRules h he (by decide)
  | scanned => cases he; exact hr.scanStep _ h
  | rebuilt => cases he; exact hr.rebuildStep _ h
  | build => cases he; exact hr.buildStep _ h
  | issue => cases he; exact hr.issueHead h
  | composition => cases he with | compose hc => exact hr.compose hc h
  | _ => exact hr.keep hf h (by decide)

end

/-! ### The slot table's form -/

/-- Slots named once, in rising order, all below 8192. -/
def TableForm (m : List (Nat × SlotRow)) : Prop := risingFrom 0 m = true ∧ ∀ e ∈ m, e.1 < 8192

theorem slotForm_iff (s : State) : SlotForm s ↔ TableForm s.sm.slots ∧ TableForm s.sm.findings ∧ ScanForm s.sm.scan := by
  unfold SlotForm TableForm ScanForm
  simp only [and_assoc]

theorem tableForm_insertAt {m : List (Nat × SlotRow)} (h : TableForm m) {k : Nat} (hk : k < 8192) (row : SlotRow) :
    TableForm (insertAt m k row) := by
  refine ⟨risingFrom_insertAt m k row h.1 (Nat.zero_le k), fun e he => ?_⟩
  rcases mem_insertAt m k row he with rfl | he
  · exact hk
  · exact h.2 e he

theorem tableForm_eraseAt {m : List (Nat × SlotRow)} (h : TableForm m) (k : Nat) : TableForm (eraseAt m k) :=
  ⟨risingFrom_eraseAt m k h.1, fun e he => h.2 e (mem_eraseAt m k he)⟩

theorem mem_of_lookup {α : Type} {m : List (Nat × α)} {k : Nat} {v : α} (h : lookup m k = some v) : (k, v) ∈ m := by
  induction m with
  | nil => cases h
  | cons e m ih =>
    obtain ⟨j, w⟩ := e
    unfold lookup at h
    split at h
    · rename_i hj
      simp only [Option.some.injEq] at h
      subst hj h
      exact List.mem_cons_self
    · exact List.mem_cons_of_mem _ (ih h)

theorem rowOf_eq_some_iff {s : State} {k : Nat} {r : RecRow} : s.rowOf k = some r ↔ lookup s.sm.slots k = some (.record r) := by
  unfold State.rowOf
  split
  · rename_i x hx
    simp [hx]
  · rename_i hx
    constructor
    · exact nofun
    · exact fun h => absurd h (hx r)

theorem slotForm_modRow (k : Nat) (f : RecRow → RecRow) {s : State} (h : SlotForm s) : SlotForm (modRow k f s) := by
  unfold modRow
  split
  · rename_i r hrow
    rw [slotForm_iff] at h ⊢
    obtain ⟨h1, h2, h3⟩ := h
    exact ⟨tableForm_insertAt h1 (h1.2 _ (mem_of_lookup (rowOf_eq_some_iff.mp hrow))) _, h2, h3⟩
  · exact h

theorem slotForm_moveSlots (items : List BatchItem) (st : RecState) {s : State} (h : SlotForm s) :
    SlotForm (moveSlots items st s) :=
  foldl_keeps (f := fun t (it : BatchItem) => modRow it.slot (fun r => { r with state := st }) t)
    (fun _ it ht => slotForm_modRow it.slot _ ht) items h

theorem slotForm_releaseSlot (s : State) (it : BatchItem) (h : SlotForm s) : SlotForm (releaseSlot s it) := by
  rw [slotForm_iff] at h ⊢
  obtain ⟨h1, h2, h3⟩ := h
  exact ⟨tableForm_eraseAt h1 _, h2, h3⟩

/-- R142: the lowest free slot lies within the count of the listed ones. -/
theorem lowestFree_le (n : Nat) (m : List (Nat × SlotRow)) : lowestFree n m ≤ n + m.length := by
  induction m generalizing n with
  | nil => exact le_rfl
  | cons e m ih =>
    unfold lowestFree
    split
    · exact (ih (n + 1)).trans (by simp only [List.length_cons]; omega)
    · exact Nat.le_add_right _ _

theorem canCompose_room {s : State} (h : canCompose s = true) : s.sm.scan = .done ∧ s.sm.slots.length < 8192 := by
  unfold canCompose at h
  simp only [Bool.and_eq_true, decide_eq_true_eq] at h
  obtain ⟨⟨⟨⟨⟨⟨hd, -⟩, hf⟩, -⟩, -⟩, -⟩, -⟩ := h
  refine ⟨of_decide_eq_true hd, ?_⟩
  unfold State.freeCount at hf
  rw [if_pos hd] at hf
  exact Nat.lt_of_sub_pos hf

theorem slotForm_endScan {s : State} (h : SlotForm s) : SlotForm (endScan s) := by
  obtain ⟨-, h2, -⟩ := (slotForm_iff s).mp h
  have hend : ∀ t : State, t.sm.slots = s.sm.findings → t.sm.findings = [] → t.sm.scan = .done → SlotForm t := by
    intro t hsl hfi hsc
    rw [slotForm_iff, hsl, hfi, hsc]
    exact ⟨h2, ⟨rfl, nofun⟩, nofun, nofun⟩
  unfold endScan
  dsimp only
  split
  · exact hend _ rfl rfl rfl
  · exact hend _ rfl rfl rfl

theorem slotForm_about : About [.slots, .scan, .up] SlotForm := by
  intro s t hs h
  rw [slotForm_iff] at h ⊢
  have hsl : t.sm.slots = s.sm.slots := hs .slots (by decide)
  obtain ⟨hsc, hfi⟩ := hs .scan (by decide)
  rwa [hsl, hsc, hfi]

theorem slotForm_rules : SlotRules SlotForm where
  about := slotForm_about
  mark := fun k _ _ _ h => slotForm_modRow k _ h
  issue := fun _ _ h => slotForm_modRow _ _ h
  take := fun req rest {s} hc h => by
    rw [slotForm_iff] at h ⊢
    obtain ⟨h1, h2, h3⟩ := h
    refine ⟨tableForm_insertAt h1 ?_ _, h2, h3⟩
    have hle := lowestFree_le 0 s.sm.slots
    have hlt := (canCompose_room hc).2
    omega
  begin := fun max s _ _ _ _ _ h => slotForm_about.keep (giveManifest_frame _ _ _ _ _)
    (show SlotForm { moveSlots (selectRecords max s) .inBatch s with up := _ } from slotForm_moveSlots _ _ h) (by decide)
  back := fun _ h => slotForm_moveSlots _ _ h
  gone := fun {b s} _ h => foldl_keeps (f := releaseSlot) slotForm_releaseSlot b.items h
  items := fun _ _ _ h => h
  find := fun k row s hs _ h => by
    rw [slotForm_iff] at h ⊢
    obtain ⟨h1, h2, h3⟩ := h
    refine ⟨h1, tableForm_insertAt h2 ?_ row, h3⟩
    rcases hs with ⟨ws, hk⟩ | ⟨rest, meter, hk⟩
    · exact h3.1 k ws hk
    · exact h3.2 _ _ hk k List.mem_cons_self
  scan := fun sc _ _ _ hsc h => by
    have hform := hsc h
    rw [slotForm_iff] at h ⊢
    obtain ⟨h1, h2, -⟩ := h
    exact ⟨h1, h2, hform⟩
  finish := fun _ h => slotForm_endScan h

/-! ### Every step -/

theorem dataInv_event {k : EventKind} {s u : State} (h : DataInv s) (he : Effect k s u) : DataInv (finish s u) := by
  rw [dataInv_iff] at h ⊢
  obtain ⟨hp, hsl⟩ := h
  exact ⟨pathForm_about.keep (finish_frame _ _) (pathForm_effect hp he) (by decide),
    slotForm_about.keep (finish_frame _ _) (slotForm_rules.effect hsl he) (by decide)⟩

theorem slotForm_reset {s : State} (hs : s.sm.slots = []) (hf : s.sm.findings = []) (hsc : s.sm.scan = .slots 0 []) :
    SlotForm s := by
  rw [slotForm_iff, hs, hf, hsc]
  refine ⟨⟨rfl, nofun⟩, ⟨rfl, nofun⟩, fun k ws hk => ?_, nofun⟩
  injection hk with hk _
  exact hk ▸ by decide

/-- Settles O9: every write to the sparse data keeps their form, a slot joins the table below slot 8192, and the scan names
slots below 8192. -/
theorem stepKeepsTheDataForm : Obligations.StepKeepsTheDataForm := by
  intro s t h hs
  exact step_keeps (P := DataInv) (fun _ _ h => h)
    (fun _ _ h => (dataInv_iff _).mpr ⟨⟨h.1, rfl, rfl⟩, slotForm_reset rfl rfl rfl⟩)
    (fun h => (dataInv_iff _).mpr ⟨⟨h.1, rfl, rfl⟩, slotForm_reset rfl rfl rfl⟩) dataInv_event h hs

end Sys2Proof.Machine
end

section
/-! The batch (R165, R166): its size and id, and the slots IN_BATCH those it lists. -/
namespace Sys2Proof.Machine

/-! ### Size and id -/

theorem nextBatchId_ne_zero (id : Half) : nextBatchId id ≠ 0 := by
  unfold nextBatchId
  split
  · decide
  · rename_i h
    bv_omega

theorem length_sortSeq (xs : List (Nat × Word)) : (sortSeq xs).length = xs.length := (sortSeq_perm xs).length_eq

theorem length_slotsWhere (st : RecState) (rows : List (Nat × SlotRow)) :
    (slotsWhere (fun r => decide (r.state = st)) rows).length = rows.countP fun e => e.2.isIn st := by
  induction rows with
  | nil => rfl
  | cons e rows ih =>
    obtain ⟨k, row⟩ := e
    unfold slotsWhere at ih ⊢
    rw [List.countP_cons, ← ih]
    cases row with
    | quarantined => simp [SlotRow.isIn]
    | record r => by_cases hr : r.state = st <;> simp [SlotRow.isIn, hr]

/-- R168: as many records as the host allows and the store holds. -/
theorem length_selectRecords (n : Nat) (s : State) : (selectRecords n s).length = min n s.storedCount := by
  unfold selectRecords State.storedCount
  rw [List.length_map, List.length_take, length_sortSeq, length_slotsWhere]

theorem batchInv_about : About [.slots, .scan, .up] BatchInv := by
  intro s t hs h
  have hu : t.up = s.up := hs .up (by decide)
  unfold BatchInv
  rwa [hu]

theorem batchInv_unbatched {s t : State} (h : BatchInv s) (hu : t.up = { s.up with batch := none }) : BatchInv t := by
  unfold BatchInv
  rw [hu]
  exact ⟨h.1, nofun⟩

theorem batchInv_rules : SlotRules BatchInv where
  about := batchInv_about
  mark := fun k f s _ h => by
    have hu : (modRow k f s).up = s.up := modRow_up _ _ _
    unfold BatchInv
    rwa [hu]
  issue := fun {k r s} _ _ h => by
    unfold BatchInv
    rwa [modRow_up]
  take := fun _ _ _ _ h => h
  begin := fun max s _ _ hmax hle hn h => by
    refine ⟨nextBatchId_ne_zero _, fun b hb => ?_⟩
    rw [← Option.some.inj hb]
    simp only [length_selectRecords]
    exact ⟨by omega, by omega, h.1⟩
  back := fun {b s} _ h => by
    have hu : (moveSlots b.items .stored s).up = s.up := moveSlots_frame b.items .stored s .up (by decide)
    exact batchInv_unbatched h (congrArg (fun u : Upload => { u with batch := none }) hu)
  gone := fun {b s} _ h => by
    have hu : (b.items.foldl releaseSlot s).up = s.up := Frame.foldl releaseSlot_frame b.items s .up (by decide)
    exact batchInv_unbatched h (congrArg (fun u : Upload => { u with batch := none }) hu)
  items := fun {b b' s} hb hid hslots h => by
    refine ⟨h.1, fun c hc => ?_⟩
    have hlen : b'.items.length = b.items.length := by simpa using congrArg List.length hslots
    obtain ⟨h1, h2, h3⟩ := h.2 b hb
    rw [← Option.some.inj hc, hlen, hid]
    exact ⟨h1, h2, h3⟩
  find := fun _ _ _ _ _ h => h
  scan := fun _ _ _ _ _ h => h
  finish := fun {s} _ h => by
    have hu : (endScan s).up = s.up := endScan_frame s .up (by decide)
    unfold BatchInv
    rwa [hu]

theorem step_keeps_batchInv {s t : State} (h : BatchInv s) (hs : step s = .next t) : BatchInv t :=
  step_keeps (P := BatchInv) (fun _ _ h => h) (fun _ _ _ => ⟨(by decide : (1 : Half) ≠ 0), nofun⟩) (fun _ => ⟨(by decide : (1 : Half) ≠ 0), nofun⟩)
    (fun h he => batchInv_about.keep (finish_frame _ _) (batchInv_rules.effect h he) (by decide)) h hs

/-! ### What a slot's row is after the deeds on the table -/

theorem rowOf_modRow (k : Nat) (f : RecRow → RecRow) (s : State) (j : Nat) :
    (modRow k f s).rowOf j = if j = k then (s.rowOf j).map f else s.rowOf j := by
  unfold modRow
  split
  · rename_i r hr
    have hrow : ({ s with sm := { s.sm with slots := insertAt s.sm.slots k (.record (f r)) } } : State).rowOf j =
        match lookup (insertAt s.sm.slots k (.record (f r))) j with
        | some (.record x) => some x
        | _ => none := rfl
    rw [hrow]
    split_ifs with hj
    · subst hj
      rw [lookup_insertAt_same, hr]
      rfl
    · rw [lookup_insertAt_other _ _ hj]
      rfl
  · rename_i hr
    split_ifs with hj
    · rw [hj, hr]
      rfl
    · rfl

theorem rowOf_moveSlots (items : List BatchItem) (st : RecState) : ∀ (s : State) (j : Nat),
    (moveSlots items st s).rowOf j =
      if j ∈ items.map (fun it => it.slot) then (s.rowOf j).map (fun r => { r with state := st }) else s.rowOf j := by
  unfold moveSlots
  induction items with
  | nil => exact fun _ _ => rfl
  | cons it items ih =>
    intro s j
    rw [List.foldl_cons, ih, rowOf_modRow, List.map_cons]
    simp only [List.mem_cons]
    by_cases hj : j = it.slot
    · simp [hj, Option.map_map, Function.comp_def]
    · by_cases hi : j ∈ items.map (fun it => it.slot) <;> simp [hj, hi]

theorem rowOf_releaseSlot (s : State) (it : BatchItem) (h : SlotForm s) (j : Nat) :
    (releaseSlot s it).rowOf j = if j = it.slot then none else s.rowOf j := by
  have hrow : (releaseSlot s it).rowOf j =
      match lookup (eraseAt s.sm.slots it.slot) j with
      | some (.record x) => some x
      | _ => none := rfl
  rw [hrow]
  split_ifs with hj
  · subst hj
    rw [lookup_eraseAt_same _ _ h.1]
  · rw [lookup_eraseAt_other _ hj]
    rfl

theorem rowOf_releaseSlots (items : List BatchItem) : ∀ (s : State), SlotForm s → ∀ j,
    (items.foldl releaseSlot s).rowOf j = if j ∈ items.map (fun it => it.slot) then none else s.rowOf j := by
  induction items with
  | nil => exact fun _ _ _ => rfl
  | cons it items ih =>
    intro s h j
    rw [List.foldl_cons, ih _ (slotForm_releaseSlot s it h), rowOf_releaseSlot s it h, List.map_cons]
    simp only [List.mem_cons]
    by_cases hj : j = it.slot
    · simp [hj]
    · by_cases hi : j ∈ items.map (fun it => it.slot) <;> simp [hj, hi]

theorem lookup_of_mem {α : Type} {m : List (Nat × α)} {lo k : Nat} {v : α} (hr : risingFrom lo m = true)
    (h : (k, v) ∈ m) : lookup m k = some v := by
  induction m generalizing lo with
  | nil => cases h
  | cons e m ih =>
    obtain ⟨j, w⟩ := e
    simp only [risingFrom, Bool.and_eq_true, decide_eq_true_eq] at hr
    rcases List.mem_cons.mp h with he | he
    · obtain ⟨rfl, rfl⟩ := Prod.mk.inj he
      simp [lookup]
    · have hlook := ih hr.2 he
      have hne : j ≠ k := by
        rintro rfl
        rw [lookup_none_below m hr.2 (Nat.lt_succ_self j)] at hlook
        cases hlook
      simp [lookup, hne, hlook]

/-- R142: the slot taken is listed nowhere. -/
theorem lookup_lowestFree {n : Nat} {m : List (Nat × SlotRow)} (h : risingFrom n m = true) :
    lookup m (lowestFree n m) = none := by
  induction m generalizing n with
  | nil => rfl
  | cons e m ih =>
    obtain ⟨k, w⟩ := e
    simp only [risingFrom, Bool.and_eq_true, decide_eq_true_eq] at h
    have hle (a : Nat) : a ≤ lowestFree a m := by
      clear ih h
      induction m generalizing a with
      | nil => exact le_rfl
      | cons x m ihm =>
        unfold lowestFree
        split
        · exact (Nat.le_succ a).trans (ihm (a + 1))
        · exact le_rfl
    unfold lowestFree
    split
    · rename_i hk
      subst hk
      have hne : k ≠ lowestFree (k + 1) m := Nat.ne_of_lt (hle (k + 1))
      simp [lookup, hne, ih h.2]
    · rename_i hk
      have hlt : n < k := Nat.lt_of_le_of_ne h.1 (Ne.symm hk)
      have hne : k ≠ n := hk
      simp [lookup, hne, lookup_none_below m h.2 (Nat.lt_succ_of_lt hlt)]

theorem risingFrom_le_of_mem {α : Type} {m : List (Nat × α)} {lo : Nat} (h : risingFrom lo m = true) {e : Nat × α}
    (he : e ∈ m) : lo ≤ e.1 := by
  induction m generalizing lo with
  | nil => cases he
  | cons x m ih =>
    obtain ⟨k, v⟩ := x
    simp only [risingFrom, Bool.and_eq_true, decide_eq_true_eq] at h
    rcases List.mem_cons.mp he with rfl | he
    · exact h.1
    · exact h.1.trans ((Nat.le_succ k).trans (ih h.2 he))

theorem rising_keys_nodup {α : Type} {m : List (Nat × α)} {lo : Nat} (h : risingFrom lo m = true) :
    (m.map fun e => e.1).Nodup := by
  induction m generalizing lo with
  | nil => exact List.nodup_nil
  | cons x m ih =>
    obtain ⟨k, v⟩ := x
    simp only [risingFrom, Bool.and_eq_true, decide_eq_true_eq] at h
    rw [List.map_cons, List.nodup_cons]
    refine ⟨fun hk => ?_, ih h.2⟩
    obtain ⟨e, he, hek⟩ := List.mem_map.mp hk
    have hle := risingFrom_le_of_mem h.2 he
    omega

theorem slotsWhere_keys_sublist (p : RecRow → Bool) (rows : List (Nat × SlotRow)) :
    ((slotsWhere p rows).map fun e => e.1).Sublist (rows.map fun e => e.1) := by
  induction rows with
  | nil => exact .refl _
  | cons e rows ih =>
    obtain ⟨k, row⟩ := e
    unfold slotsWhere at ih ⊢
    cases row with
    | quarantined => exact ih.cons _
    | record r =>
      by_cases hr : p r = true
      · simpa [hr] using ih.cons_cons k
      · simpa [hr] using ih.cons k

/-- The slots of a selection: STORED records, each once. -/
theorem selectRecords_slots {n : Nat} {s : State} (h : risingFrom 0 s.sm.slots = true) :
    ((selectRecords n s).map fun it => it.slot).Nodup ∧
      ∀ k ∈ (selectRecords n s).map (fun it => it.slot), ∃ r, s.rowOf k = some r ∧ r.state = .stored := by
  have hmap : (selectRecords n s).map (fun it => it.slot) =
      ((sortSeq (slotsWhere (fun r => decide (r.state = .stored)) s.sm.slots)).take n).map fun e => e.1 := by
    unfold selectRecords
    rw [List.map_map]
    rfl
  rw [hmap]
  constructor
  · have hkeys : (s.sm.slots.map fun e => e.1).Nodup := rising_keys_nodup h
    have hsub : ((slotsWhere (fun r => decide (r.state = .stored)) s.sm.slots).map fun e => e.1).Sublist
        (s.sm.slots.map fun e => e.1) := slotsWhere_keys_sublist _ _
    have hperm := (sortSeq_perm (slotsWhere (fun r => decide (r.state = .stored)) s.sm.slots)).map fun e => e.1
    exact ((List.take_sublist _ _).map _).nodup (hperm.nodup_iff.mpr (hsub.nodup hkeys))
  · intro k hk
    obtain ⟨e, he, rfl⟩ := List.mem_map.mp hk
    obtain ⟨r, hmem, hst, -⟩ := mem_slotsWhere.mp ((sortSeq_perm _).mem_iff.mp (List.mem_of_mem_take he))
    exact ⟨r, rowOf_eq_some_iff.mpr (lookup_of_mem h hmem), of_decide_eq_true hst⟩

/-! ### The law of the batch -/

/-- Slot `k` holds a record IN_BATCH. -/
def InBatch (s : State) (k : Nat) : Prop := ∃ r, s.rowOf k = some r ∧ r.state = .inBatch

/-- The slots that the batch lists. -/
def batchSlots (s : State) : List Nat :=
  match s.up.batch with
  | some b => b.items.map fun it => it.slot
  | none => []

theorem batchLaw_iff (s : State) :
    BatchLaw s ↔ (∀ k, InBatch s k ↔ k ∈ batchSlots s) ∧ (batchSlots s).Nodup ∧
      (s.sm.scan ≠ .done → s.up.batch = none) ∧
      ∀ e ∈ s.sm.findings, ∀ r, e.2 = .record r → r.state = .stored := by
  unfold BatchLaw InBatch batchSlots
  rcases s.up.batch with _ | b <;> simp

theorem batchLaw_about : About [.slots, .scan, .up] BatchLaw := by
  intro s t hs h
  have hsl : t.sm.slots = s.sm.slots := hs .slots (by decide)
  obtain ⟨hsc, hfi⟩ := hs .scan (by decide)
  have hu : t.up = s.up := hs .up (by decide)
  unfold BatchLaw State.rowOf at h ⊢
  rwa [hsl, hsc, hfi, hu]

/-- A row that changes but not to or from IN_BATCH. -/
theorem inBatch_modRow {k : Nat} {f : RecRow → RecRow} {s : State}
    (hf : ∀ r, s.rowOf k = some r → ((f r).state = .inBatch ↔ r.state = .inBatch)) (j : Nat) :
    InBatch (modRow k f s) j ↔ InBatch s j := by
  unfold InBatch
  rw [rowOf_modRow]
  split_ifs with hj
  · subst hj
    rcases hr : s.rowOf j with _ | r
    · simp
    · simpa using hf r hr
  · rfl

theorem batchLaw_modRow {k : Nat} {f : RecRow → RecRow} {s : State} (h : BatchLaw s)
    (hf : ∀ r, s.rowOf k = some r → ((f r).state = .inBatch ↔ r.state = .inBatch)) : BatchLaw (modRow k f s) := by
  rw [batchLaw_iff] at h ⊢
  obtain ⟨h1, h2, h3, h4⟩ := h
  have hm := modRow_frame k f s
  have hu : (modRow k f s).up = s.up := hm .up (by decide)
  obtain ⟨hsc, hfi⟩ := hm .scan (by decide)
  have hb : batchSlots (modRow k f s) = batchSlots s := by unfold batchSlots; rw [hu]
  rw [hb, hu, hsc, hfi]
  exact ⟨fun j => (inBatch_modRow hf j).trans (h1 j), h2, h3, h4⟩

/-- Where no batch is left and no listed slot stays IN_BATCH. -/
theorem batchLaw_unbatched {s t : State} (h : BatchLaw s) (hb : t.up.batch = none) (hsc : t.sm.findings = s.sm.findings)
    (hrow : ∀ k, InBatch t k → InBatch s k ∧ k ∉ batchSlots s) : BatchLaw t := by
  rw [batchLaw_iff] at h ⊢
  obtain ⟨h1, -, -, h4⟩ := h
  have hbs : batchSlots t = [] := by unfold batchSlots; rw [hb]
  rw [hbs, hsc]
  refine ⟨fun k => ⟨fun hk => ?_, nofun⟩, List.nodup_nil, fun _ => hb, h4⟩
  obtain ⟨hin, hout⟩ := hrow k hk
  exact absurd ((h1 k).mp hin) hout

theorem batchLaw_take (req : Request) (rest : List Request) {s : State} (hf : SlotForm s) (h : BatchLaw s) :
    BatchLaw (takeSlot req rest (lowestFree 0 s.sm.slots) s) := by
  rw [batchLaw_iff] at h ⊢
  obtain ⟨h1, h2, h3, h4⟩ := h
  refine ⟨fun j => Iff.trans ?_ (h1 j), h2, h3, h4⟩
  have hrow : (takeSlot req rest (lowestFree 0 s.sm.slots) s).rowOf j =
      match lookup (insertAt s.sm.slots (lowestFree 0 s.sm.slots)
        (.record ⟨.writing, req.kind, s.sm.nextSeq, s.route.number, false, false⟩)) j with
      | some (.record x) => some x
      | _ => none := rfl
  unfold InBatch
  rw [hrow]
  by_cases hj : j = lowestFree 0 s.sm.slots
  · subst hj
    rw [lookup_insertAt_same]
    have hnone : s.rowOf (lowestFree 0 s.sm.slots) = none := by
      unfold State.rowOf
      rw [lookup_lowestFree hf.1]
    simp [hnone]
  · rw [lookup_insertAt_other _ _ hj]
    rfl

theorem acceptBegin_sm (max : Nat) (s : State) :
    (acceptBegin max s).sm = (moveSlots (selectRecords max s) .inBatch s).sm := by
  simp [acceptBegin, giveManifest]

theorem batchSlots_acceptBegin (max : Nat) (s : State) :
    batchSlots (acceptBegin max s) = (selectRecords max s).map fun it => it.slot := by
  simp [batchSlots, acceptBegin, giveManifest]

theorem batchLaw_begin (max : Nat) {s : State} (hd : s.sm.scan = .done) (hb : s.up.batch = none) (hf : SlotForm s)
    (h : BatchLaw s) : BatchLaw (acceptBegin max s) := by
  obtain ⟨hnd, hst⟩ := selectRecords_slots (n := max) hf.1
  rw [batchLaw_iff] at h ⊢
  obtain ⟨h1, -, -, h4⟩ := h
  have hm := moveSlots_frame (selectRecords max s) .inBatch s
  obtain ⟨hsc, hfi⟩ := hm .scan (by decide)
  have hold (k : Nat) : ¬ InBatch s k := by
    rw [h1 k]
    unfold batchSlots
    rw [hb]
    exact List.not_mem_nil
  rw [batchSlots_acceptBegin, acceptBegin_sm, hsc, hfi]
  refine ⟨fun k => ?_, hnd, fun hne => absurd hd hne, h4⟩
  have hrow : (acceptBegin max s).rowOf k = (moveSlots (selectRecords max s) .inBatch s).rowOf k := by
    unfold State.rowOf
    rw [acceptBegin_sm]
  unfold InBatch
  rw [hrow, rowOf_moveSlots]
  split_ifs with hk
  · obtain ⟨r, hr, -⟩ := hst k hk
    simp [hr, hk]
  · exact ⟨fun hin => absurd hin (hold k), fun hin => absurd hin hk⟩

theorem batchLaw_back {b : Batch} {s : State} (hb : s.up.batch = some b) (h : BatchLaw s) :
    BatchLaw (unbatched (moveSlots b.items .stored s)) := by
  have hfi : (moveSlots b.items .stored s).sm.findings = s.sm.findings :=
    (moveSlots_frame b.items .stored s .scan (by decide)).2
  refine batchLaw_unbatched h rfl hfi fun k hk => ?_
  have hbs : batchSlots s = b.items.map fun it => it.slot := by unfold batchSlots; rw [hb]
  have hk' : InBatch (moveSlots b.items .stored s) k := hk
  unfold InBatch at hk'
  rw [rowOf_moveSlots] at hk'
  split_ifs at hk' with hmem
  · obtain ⟨r, hr, hst⟩ := hk'
    obtain ⟨x, -, rfl⟩ := Option.map_eq_some_iff.mp hr
    cases hst
  · exact ⟨hk', hbs ▸ hmem⟩

theorem batchLaw_gone {b : Batch} {s : State} (hb : s.up.batch = some b) (hf : SlotForm s) (h : BatchLaw s) :
    BatchLaw (unbatched (b.items.foldl releaseSlot s)) := by
  have hfi : (b.items.foldl releaseSlot s).sm.findings = s.sm.findings :=
    (Frame.foldl releaseSlot_frame b.items s .scan (by decide)).2
  refine batchLaw_unbatched h rfl hfi fun k hk => ?_
  have hbs : batchSlots s = b.items.map fun it => it.slot := by unfold batchSlots; rw [hb]
  have hk' : InBatch (b.items.foldl releaseSlot s) k := hk
  unfold InBatch at hk'
  rw [rowOf_releaseSlots b.items s hf] at hk'
  split_ifs at hk' with hmem
  · obtain ⟨r, hr, -⟩ := hk'
    cases hr
  · exact ⟨hk', hbs ▸ hmem⟩

theorem batchLaw_items {b b' : Batch} {s : State} (hb : s.up.batch = some b)
    (hslots : (b'.items.map fun it => it.slot) = b.items.map fun it => it.slot) (h : BatchLaw s) :
    BatchLaw { s with up := { s.up with batch := some b' } } := by
  rw [batchLaw_iff] at h ⊢
  obtain ⟨h1, h2, h3, h4⟩ := h
  have hbs : batchSlots { s with up := { s.up with batch := some b' } } = batchSlots s := by
    unfold batchSlots
    rw [hb]
    exact hslots
  rw [hbs]
  refine ⟨h1, h2, fun hne => ?_, h4⟩
  rw [h3 hne] at hb
  cases hb

theorem batchLaw_endScan {s : State} (hs : s.sm.scan ≠ .done) (h : BatchLaw s) :
    BatchLaw (endScan s) := by
  rw [batchLaw_iff] at h
  obtain ⟨-, -, h3, h4⟩ := h
  have hend : ∀ t : State, t.sm.slots = s.sm.findings → t.sm.findings = [] → t.up = s.up → BatchLaw t := by
    intro t hsl hfi hup
    have hnone : t.up.batch = none := hup ▸ h3 hs
    have hbs : batchSlots t = [] := by unfold batchSlots; rw [hnone]
    rw [batchLaw_iff, hbs, hfi]
    refine ⟨fun k => ⟨?_, nofun⟩, List.nodup_nil, fun _ => hnone, nofun⟩
    rintro ⟨r, hr, hst⟩
    rw [rowOf_eq_some_iff, hsl] at hr
    rw [h4 _ (mem_of_lookup hr) r rfl] at hst
    cases hst
  unfold endScan
  dsimp only
  split
  · exact hend _ rfl rfl rfl
  · exact hend _ rfl rfl rfl

/-- The law goes with the form of the table. -/
theorem batchLaw_rules : SlotRules fun s => SlotForm s ∧ BatchLaw s where
  about := fun s t hs h => ⟨slotForm_about s t hs h.1, batchLaw_about s t hs h.2⟩
  mark := fun k f s hf h => ⟨slotForm_modRow k f h.1, batchLaw_modRow h.2 fun r _ => by rw [hf r]⟩
  issue := fun {k r s} hr hst h => by
    refine ⟨slotForm_modRow k _ h.1, batchLaw_modRow h.2 fun x hx => ?_⟩
    rw [hr] at hx
    cases hx
    simp [hst]
  take := fun req rest _ hc h => ⟨slotForm_rules.take req rest hc h.1, batchLaw_take req rest h.1 h.2⟩
  begin := fun max _ hd hb h0 hle hn h =>
    ⟨slotForm_rules.begin max hd hb h0 hle hn h.1, batchLaw_begin max hd hb h.1 h.2⟩
  back := fun hb h => ⟨slotForm_rules.back hb h.1, batchLaw_back hb h.2⟩
  gone := fun hb h => ⟨slotForm_rules.gone hb h.1, batchLaw_gone hb h.1 h.2⟩
  items := fun hb _ hslots h => ⟨h.1, batchLaw_items hb hslots h.2⟩
  find := fun k row s hs hrow h => by
    refine ⟨slotForm_rules.find k row hs hrow h.1, ?_⟩
    obtain ⟨h1, h2, h3, h4⟩ := h.2
    refine ⟨h1, h2, h3, fun e he r hr => ?_⟩
    rcases mem_insertAt s.sm.findings k row he with rfl | he
    · exact hrow r hr
    · exact h4 e he r hr
  scan := fun sc s hs hsc hform h => by
    refine ⟨slotForm_rules.scan sc hs hsc hform h.1, ?_⟩
    obtain ⟨h1, h2, h3, h4⟩ := h.2
    exact ⟨h1, h2, fun _ => h3 hs, h4⟩
  finish := fun hs h => ⟨slotForm_endScan h.1, batchLaw_endScan hs h.2⟩

theorem batchLaw_reset {s : State} (hs : s.sm.slots = []) (hf : s.sm.findings = []) (hb : s.up.batch = none) :
    BatchLaw s := by
  have hbs : batchSlots s = [] := by unfold batchSlots; rw [hb]
  rw [batchLaw_iff, hbs, hf]
  refine ⟨fun k => ⟨?_, nofun⟩, List.nodup_nil, fun _ => hb, nofun⟩
  rintro ⟨r, hr, -⟩
  rw [rowOf_eq_some_iff, hs] at hr
  cases hr

theorem step_keeps_batchLaw {s t : State} (hf : SlotForm s) (h : BatchLaw s) (hs : step s = .next t) : BatchLaw t := by
  refine And.right (step_keeps (P := fun s => SlotForm s ∧ BatchLaw s) (fun _ _ h => h) ?_ ?_ ?_ ⟨hf, h⟩ hs)
  · exact fun _ _ _ => ⟨slotForm_reset rfl rfl rfl, batchLaw_reset rfl rfl rfl⟩
  · exact fun _ => ⟨slotForm_reset rfl rfl rfl, batchLaw_reset rfl rfl rfl⟩
  · exact fun h he => batchLaw_rules.about.keep (finish_frame _ _) (batchLaw_rules.effect h he) (by decide)

/-- Settles O13: a batch is begun from 1 to 512 STORED records, each slot once, and its slots leave IN_BATCH with it. -/
theorem stepKeepsTheBatchBounds : Obligations.StepKeepsTheBatchBounds :=
  ⟨fun _ _ => step_keeps_batchInv, fun s _ hd h hs => step_keeps_batchLaw ((dataInv_iff s).mp hd).2 h hs⟩

end Sys2Proof.Machine
end

section
/-! The reset state, the windows, the store, and what one BCLK edge does. -/
namespace Sys2Proof.Machine

/-! ### The reset state -/

/-- Settles O14: the sparse data, lists and batch of the reset state are empty, its counters 0, and its queue holds the 32
entries of the Status Page. -/
theorem resetMeetsTheInvariants : Obligations.ResetMeetsTheInvariants := by
  have hdata : DataInv State.reset := (dataInv_iff _).mpr ⟨⟨Memory.wf_empty, rfl, rfl⟩, slotForm_reset rfl rfl rfl⟩
  have hqueue : QueueInv State.reset := (queueInv_iff _).mpr (queueForm_reset 0 State.reset)
  have hcapture : CaptureInv State.reset := ⟨rfl, Nat.zero_le _, Nat.zero_le _⟩
  have hlists : ListInv State.reset := ⟨Nat.zero_le _, Nat.zero_le _, Nat.zero_le _⟩
  have hbatch : BatchInv State.reset := ⟨(by decide : (1 : Half) ≠ 0), nofun⟩
  have hcounters : CounterInv State.reset := ⟨Nat.zero_lt_succ 31, Nat.zero_le _, Nat.zero_le _⟩
  exact ⟨hdata, hqueue, hcapture, hlists, hbatch, hcounters, pollInv_reset rfl rfl rfl, batchLaw_reset rfl rfl rfl⟩

/-! ### The windows -/

theorem windowAt_plain {off : Nat}
    (h : (0x70 ≤ off ∧ off < 0x80) ∨ (0x100 ≤ off ∧ off < 0x1000) ∨ (0x1400 ≤ off ∧ off < 0x2000) ∨
      (0x3010 ≤ off ∧ off < 0x4000) ∨ (0x8000 ≤ off ∧ off < 0x10000) ∨ (0x30040 ≤ off ∧ off < 0x40000) ∨
      (0xC0000 ≤ off ∧ off < 0x200000)) : windowAt off = .plain := by
  unfold windowAt
  rcases h with h | h | h | h | h | h | h
  · iterate 3 rw [if_neg (by omega)]
    rw [if_pos (by omega)]
  · iterate 5 rw [if_neg (by omega)]
    rw [if_pos (by omega)]
  · iterate 7 rw [if_neg (by omega)]
    rw [if_pos (by omega)]
  · iterate 9 rw [if_neg (by omega)]
    rw [if_pos (by omega)]
  · iterate 11 rw [if_neg (by omega)]
    rw [if_pos (by omega)]
  · iterate 13 rw [if_neg (by omega)]
    rw [if_pos (by omega)]
  · iterate 15 rw [if_neg (by omega)]

/-- Settles O19: the offset of a word falls within the bounds of its own window alone. -/
theorem windowsFollowTheTable : Obligations.WindowsFollowTheTable := by
  refine ⟨fun sel k w => ?_, fun sel base k w hb => ?_, fun sel base off hb => ⟨fun h => ?_, fun h => ?_⟩⟩
  · exact ⟨windowOf_command sel, windowOf_response sel, windowOf_position sel, windowOf_status sel, windowOf_tx sel,
      windowOf_manifest sel, windowOf_capture sel, windowOf_image sel, windowOf_record sel⟩
  · subst hb
    exact ⟨rfl, rfl, rfl, rfl, rfl, rfl, rfl, rfl, rfl, rfl, rfl⟩
  · subst hb
    rw [← windowAt_plain h]
    exact windowOf_at sel off (by omega)
  · subst hb
    exact if_neg fun hin => by
      have hsize : partBase sel = sel.toNat * 0x200000 := rfl
      have hlt : off < partBase sel + 0x200000 := hin.2
      omega

/-! ### The store -/

theorem wordOf_byteOf (w : Word) : wordOf (byteOf w 0) (byteOf w 1) (byteOf w 2) (byteOf w 3) = w := mergeBytes_all 0 w

theorem lanes_getLsbD (p : BitVec 4) : lanes (p.getLsbD 0) (p.getLsbD 1) (p.getLsbD 2) (p.getLsbD 3) = p := by
  revert p
  decide

theorem getLsbD_lanes (b : Nat → Bool) {i : Nat} (hi : i < 4) : (lanes (b 0) (b 1) (b 2) (b 3)).getLsbD i = b i := by
  have hall : ∀ x y z t : Bool, (lanes x y z t).getLsbD 0 = x ∧ (lanes x y z t).getLsbD 1 = y ∧
      (lanes x y z t).getLsbD 2 = z ∧ (lanes x y z t).getLsbD 3 = t := by decide
  obtain ⟨h0, h1, h2, h3⟩ := hall (b 0) (b 1) (b 2) (b 3)
  interval_cases i
  · exact h0
  · exact h1
  · exact h2
  · exact h3

theorem extract_wordOf (b : Nat → Byte) {i : Nat} (hi : i < 4) :
    (wordOf (b 0) (b 1) (b 2) (b 3)).extractLsb' (8 * i) 8 = b i := by
  unfold wordOf
  ext j hj
  rw [BitVec.getElem_extractLsb', ← BitVec.getLsbD_eq_getElem]
  simp only [BitVec.getLsbD_append]
  interval_cases i
  · rw [if_pos (by omega)]
    congr 1
    omega
  · rw [if_neg (by omega), if_pos (by omega)]
    congr 1
    omega
  · rw [if_neg (by omega), if_neg (by omega), if_pos (by omega)]
    congr 1
    omega
  · rw [if_neg (by omega), if_neg (by omega), if_neg (by omega)]
    congr 1
    omega

/-- The lanes of a write, as a fold. -/
theorem Store.write_lanes (st : Store) (a : Nat) (w : BusWord) (be : BitVec 4) :
    st.write a w be = [0, 1, 2, 3].foldl (fun t i => t.writeLane a w be i) st := rfl

/-- Lanes other than `i` leave byte `i`. -/
theorem Store.writeLanes_other (l : List Nat) (a : Nat) (w : BusWord) (be : BitVec 4) {i : Nat} (hi : i ∉ l) :
    ∀ st : Store, (l.foldl (fun t i => t.writeLane a w be i) st).byte (a + i) = st.byte (a + i) ∧
      (l.foldl (fun t i => t.writeLane a w be i) st).parityBit (a + i) = st.parityBit (a + i) := by
  induction l with
  | nil => exact fun _ => ⟨rfl, rfl⟩
  | cons j l ih =>
    intro st
    rw [List.mem_cons, not_or] at hi
    obtain ⟨hij, hil⟩ := hi
    obtain ⟨hb, hp⟩ := Store.writeLane_other st (a := a) (x := a + i) w be j (by omega)
    obtain ⟨hb', hp'⟩ := ih hil (st.writeLane a w be j)
    exact ⟨hb'.trans hb, hp'.trans hp⟩

theorem Memory.wf_writeLanes (l : List Nat) (a : Nat) (w : BusWord) (be : BitVec 4) :
    ∀ {st : Store}, Memory.wf st = true → Memory.wf (l.foldl (fun t i => t.writeLane a w be i) st) = true := by
  induction l with
  | nil => exact fun h => h
  | cons j l ih => exact fun h => ih (Memory.wf_writeLane _ _ _ _ _ h)

/-- R3: lane `i` of a write takes its byte and parity bit when its enable is set, and is left otherwise. -/
theorem Store.write_lane (st : Store) (a : Nat) (w : BusWord) (be : BitVec 4) (h : Memory.wf st = true) {i : Nat}
    (hi : i < 4) :
    (st.write a w be).byte (a + i) = (if be.getLsbD i then byteOf w.data i else st.byte (a + i)) ∧
      (st.write a w be).parityBit (a + i) = (if be.getLsbD i then w.parity.getLsbD i else st.parityBit (a + i)) := by
  have key : ∀ pre post : List Nat, i ∉ pre → i ∉ post → [0, 1, 2, 3] = pre ++ i :: post →
      (st.write a w be).byte (a + i) = (if be.getLsbD i then byteOf w.data i else st.byte (a + i)) ∧
        (st.write a w be).parityBit (a + i) =
          (if be.getLsbD i then w.parity.getLsbD i else st.parityBit (a + i)) := by
    intro pre post hpre hpost hsplit
    rw [Store.write_lanes, hsplit, List.foldl_append, List.foldl_cons]
    obtain ⟨hb, hp⟩ := Store.writeLanes_other pre a w be hpre st
    obtain ⟨hb', hp'⟩ := Store.writeLane_same _ a w be i (Memory.wf_writeLanes pre a w be h)
    obtain ⟨hb'', hp''⟩ := Store.writeLanes_other post a w be hpost
      ((pre.foldl (fun t i => t.writeLane a w be i) st).writeLane a w be i)
    rw [hb'', hp'', hb', hp', hb, hp]
    exact ⟨rfl, rfl⟩
  interval_cases i
  · exact key [] [1, 2, 3] (by decide) (by decide) rfl
  · exact key [0] [2, 3] (by decide) (by decide) rfl
  · exact key [0, 1] [3] (by decide) (by decide) rfl
  · exact key [0, 1, 2] [] (by decide) (by decide) rfl

/-- A full write reads back. -/
theorem Store.word_write_all (st : Store) (a : Nat) (w : BusWord) (h : Memory.wf st = true) :
    (st.write a w allLanes).word a = w.data ∧ (st.write a w allLanes).parity a = w.parity := by
  have hlane {i : Nat} (hi : i < 4) : (st.write a w allLanes).byte (a + i) = byteOf w.data i ∧
      (st.write a w allLanes).parityBit (a + i) = w.parity.getLsbD i := by
    have hbe : allLanes.getLsbD i = true := by interval_cases i <;> rfl
    simpa only [hbe, if_true] using Store.write_lane st a w allLanes h hi
  obtain ⟨hb0, hp0⟩ := hlane (i := 0) (by decide)
  obtain ⟨hb1, hp1⟩ := hlane (i := 1) (by decide)
  obtain ⟨hb2, hp2⟩ := hlane (i := 2) (by decide)
  obtain ⟨hb3, hp3⟩ := hlane (i := 3) (by decide)
  unfold Store.word Store.parity
  constructor
  · refine Eq.trans ?_ (wordOf_byteOf w.data)
    rw [← hb0, ← hb1, ← hb2, ← hb3]
    rfl
  · refine Eq.trans ?_ (lanes_getLsbD w.parity)
    rw [← hp0, ← hp1, ← hp2, ← hp3]
    rfl

/-- Settles O7: each lane of a write acts on its own byte alone, and a word is made of its four lanes. -/
theorem storeReadsBackWhatWasWritten : Obligations.StoreReadsBackWhatWasWritten := by
  refine ⟨fun st a w h => ?_, fun st a w be h => ⟨fun i hi => ?_, fun x hx => ?_⟩, fun st a i hi => ⟨?_, ?_⟩⟩
  · obtain ⟨hw, hp⟩ := Store.word_write_all st a w h
    exact ⟨hw, hp, fun x hx => Store.write_other st w allLanes hx⟩
  · exact Store.write_lane st a w be h hi
  · exact Store.write_other st w be hx
  · exact extract_wordOf (fun i => st.byte (a + i)) hi
  · exact getLsbD_lanes (fun i => st.parityBit (a + i)) hi

/-! ### One BCLK edge (log entry 5) -/

theorem sample_lastSample (e : Events) : e.sample.lastSample = some e.sleepPin := by
  unfold Events.sample Events.sleepLevel
  dsimp only
  split
  · split
    · rfl
    · split <;> rfl
  · rfl

theorem detectorFull_flt (s : State) :
    (detectorFull s).flt = { s.flt with detector := 4096, clockLost := true } := by
  unfold detectorFull
  dsimp only
  split
  · rename_i h
    show { s.flt with detector := 4096 } = _
    rw [← h]
  · rfl

theorem detectorFull_lastSample (s : State) : (detectorFull s).ev.lastSample = s.ev.lastSample := by
  unfold detectorFull
  dsimp only
  split <;> rfl

/-- The pulse, the sample and the detector of an edge. -/
theorem bclkEdge_facts (s : State) :
    (bclkEdge s).ev.lastSample = some s.ev.sleepPin ∧
      (bclkEdge s).ev.pulse.left = (if s.ev.pulse.requested then 32 else s.ev.pulse.left - 1) ∧
      (s.flt.detector + 1 < 4096 → (bclkEdge s).flt = { s.flt with detector := s.flt.detector + 1 }) ∧
      (4096 ≤ s.flt.detector + 1 → (bclkEdge s).flt = { s.flt with detector := 4096, clockLost := true }) := by
  have hleft : s.ev.pulse.edge.left = if s.ev.pulse.requested then 32 else s.ev.pulse.left - 1 := by
    unfold Pulse.edge
    split <;> rfl
  have hsample := sample_lastSample { s.ev with pulse := s.ev.pulse.edge }
  have hpulse := sample_left { s.ev with pulse := s.ev.pulse.edge }
  unfold bclkEdge detectorEdge
  split
  · rename_i hfull
    refine ⟨(detectorFull_lastSample _).trans hsample, ?_, fun hlt => absurd hfull (not_le_of_gt hlt), fun _ => ?_⟩
    · have hf : (detectorFull { s with ev := { s.ev with pulse := s.ev.pulse.edge }.sample }).ev.pulse.left =
          { s.ev with pulse := s.ev.pulse.edge }.sample.pulse.left := detectorFull_frame _ .pulse (by decide)
      rw [hf, hpulse, hleft]
    · exact detectorFull_flt _
  · rename_i hnot
    refine ⟨hsample, hpulse.trans hleft, fun _ => rfl, fun hle => absurd hle hnot⟩

/-- Settles O2: the tick is one BCLK edge, which changes the Event Unit and the fault logic alone. -/
theorem emptyQueuePassesOneBclkEdge : Obligations.EmptyQueuePassesOneBclkEdge := by
  intro s hr hp
  obtain ⟨hsample, hleft, hcounts, hfull⟩ := bclkEdge_facts s
  have hf := bclkEdge_frame s
  have hpend : (bclkEdge s).pending = s.pending := hf .pending (by decide)
  have hstore : (bclkEdge s).store = s.store := hf .store (by decide)
  refine ⟨finish s (bclkEdge s), ?_, hpend.trans hp, fun a => ?_, hsample, hleft, hcounts, hfull, hf .clk (by decide),
    hf .dir (by decide), ?_⟩
  · unfold step
    rw [hp]
    exact event_taken hr rfl
  · unfold ByteKept
    rw [finish_store, hstore]
    exact ⟨rfl, rfl⟩
  · unfold finish bclkEdge detectorEdge detectorFull
    dsimp only
    split
    · split <;> rfl
    · rfl

end Sys2Proof.Machine
end


section
/-! EVENT_CLEAR, FAULT_CLEAR and METER_QUERY on an accepted header (R55, R189, R196). -/
namespace Sys2Proof.Machine

/-! ### What the commit leaves unchanged -/

@[simp] theorem begun_ins (c : HostCommand) (h : CmdHeader) (s : State) : (begun c h s).ins = s.ins := rfl
@[simp] theorem begun_clk (c : HostCommand) (h : CmdHeader) (s : State) : (begun c h s).clk = s.clk := rfl
@[simp] theorem begun_cap (c : HostCommand) (h : CmdHeader) (s : State) : (begun c h s).cap = s.cap := rfl
@[simp] theorem begun_dir (c : HostCommand) (h : CmdHeader) (s : State) : (begun c h s).dir = s.dir := rfl
@[simp] theorem begun_poll (c : HostCommand) (h : CmdHeader) (s : State) : (begun c h s).poll = s.poll := rfl
@[simp] theorem begun_tamper (c : HostCommand) (h : CmdHeader) (s : State) : (begun c h s).tamper = s.tamper := rfl
@[simp] theorem begun_sm (c : HostCommand) (h : CmdHeader) (s : State) : (begun c h s).sm = s.sm := rfl
@[simp] theorem begun_up (c : HostCommand) (h : CmdHeader) (s : State) : (begun c h s).up = s.up := rfl
@[simp] theorem begun_flt (c : HostCommand) (h : CmdHeader) (s : State) : (begun c h s).flt = s.flt := rfl
@[simp] theorem begun_areaSel (c : HostCommand) (h : CmdHeader) (s : State) :
    (begun c h s).path.areaSel = s.path.areaSel := rfl

/-- A number placed at bit 0 is its word. -/
theorem num_zero (n : Nat) : num n 0 = BitVec.ofNat 32 n := BitVec.shiftLeft_zero _

/-! ### EVENT_CLEAR (R189) -/

theorem exec_eventClear_accepted {h : CmdHeader} {s : State} (ha : Accepted .eventClear h s) :
    exec (.eventClear h) s = .next (finish s (eventClearWork (hostParam s 1) (begun .eventClear h s))) := by
  have hrun := exec_hostInstr_accepted ha
  simp only [runCommand, param_commit, Nat.reduceLT] at hrun
  exact hrun

theorem persisting_eq (s : State) :
    persisting s = (if s.tamper.list = [] then 0 else 0x001#9) ||| (if s.faultLatched then 0x100#9 else 0) := by
  simp only [persisting, List.isEmpty_iff, EventClass.mask]

theorem eventClearWork_badParam {mask : Word} {s : State} (hm : mask = 0 ∨ bits mask 9 23 ≠ 0) :
    eventClearWork mask s = respond stBadParam [] s :=
  if_pos (hm.imp id bne_iff_ne.mpr)

theorem eventClearWork_clears {mask : Word} {s : State} (h0 : mask ≠ 0) (hm : bits mask 9 23 = 0) :
    eventClearWork mask s =
      respondBehind .commandUnit
        ⟨stOk,
          [s.ev.marks.setWidth 32, ((s.ev.marks &&& ~~~bits mask 0 9) ||| stayPending s (bits mask 0 9)).setWidth 32,
            (stayPending s (bits mask 0 9)).setWidth 32, BitVec.ofNat 32 s.tamper.list.length],
          stayPending s (bits mask 0 9) != 0⟩
        { s with ev := { s.ev with marks := (s.ev.marks &&& ~~~bits mask 0 9) ||| stayPending s (bits mask 0 9) } } := by
  have hfits : ¬(mask = 0 ∨ maskTooWide mask = true) := by
    simp only [maskTooWide, hm, bne_self_eq_false, Bool.false_eq_true, or_false]
    exact h0
  rw [eventClearWork, if_neg hfits]
  simp only [place_zero, num_zero]

/-- Settles O25: the commit leaves the pending mask, the Tamper List and the fault latches as they are, so the two outcomes of
R189's test act on the state before the commit. -/
theorem eventClearKeepsPersistingClasses : Obligations.EventClearKeepsPersistingClasses := by
  intro h s ha
  rw [exec_eventClear_accepted ha]
  refine ⟨fun hm => ?_, fun h0 hm m stay hm' hstay => ?_⟩
  · rw [eventClearWork_badParam hm]
    rfl
  · have hs : stayPending (begun .eventClear h s) (bits (hostParam s 1) 0 9) = stay := by
      rw [stayPending, persisting_eq, hstay, hm']
      rfl
    rw [eventClearWork_clears h0 hm, hs, ← hm']
    rfl

/-! ### FAULT_CLEAR (R196) -/

theorem exec_faultClear_accepted {h : CmdHeader} {s : State} (ha : Accepted .faultClear h s) :
    exec (.faultClear h) s = .next (finish s (faultClearWork (begun .faultClear h s))) :=
  exec_hostInstr_accepted ha

theorem not_refclkPresent (s : State) : (!s.refclkPresent) = decide (4096 ≤ s.flt.detector) := by
  rw [State.refclkPresent, ← decide_not]
  exact decide_eq_decide.mpr Nat.not_lt

/-- R196: with `absent` for a missing REFCLK and `lost` for the latch afterwards. -/
theorem faultClearWork_eq {s : State} {absent lost : Bool} (ha : absent = decide (4096 ≤ s.flt.detector))
    (hl : lost = (s.flt.clockLost && absent)) :
    faultClearWork s =
      respond (if lost then stConditionPresent else stOk)
        [flag s.flt.storeError 0 ||| flag s.flt.clockLost 1, flag lost 1,
          if s.flt.storeError then s.flt.errorAddr else 0, s.clk.ms, flag (!absent) 0,
          BitVec.ofNat 32 s.sm.backlog.length]
        { s with
          flt :=
            { s.flt with
              storeError := false, clockLost := lost
              errorAddr := if s.flt.storeError then 0 else s.flt.errorAddr } } := by
  have hq : s.refclkPresent = !absent := by rw [ha, ← not_refclkPresent, Bool.not_not]
  have hz : flag false 0 ||| flag lost 1 = flag lost 1 := BitVec.zero_or
  simp only [faultClearWork, clearedFaults, faultBits, hq, Bool.not_not, ← hl, hz, num_zero]

/-- Settles O26: the commit leaves the fault logic, the clock and the Backlog as they are. -/
theorem faultClearClearsWhatItMay : Obligations.FaultClearClearsWhatItMay := by
  intro h s ha absent lost habsent hlost
  rw [exec_faultClear_accepted ha, faultClearWork_eq (s := begun .faultClear h s) habsent hlost]
  rfl

/-! ### METER_QUERY: the fields of the packed result words (R55) -/

/-- A number below 2^n fills a field of n bits. -/
theorem num_eq_place {x : Nat} (n lo : Nat) (h : x < 2 ^ n) : num x lo = place (BitVec.ofNat n x) lo := by
  have hw : BitVec.ofNat 32 x = (BitVec.ofNat n x).setWidth 32 := by
    apply BitVec.eq_of_toNat_eq
    rw [BitVec.toNat_ofNat, BitVec.toNat_setWidth, BitVec.toNat_ofNat, Nat.mod_eq_of_lt h]
  rw [num, place, hw]

theorem bits_of_four_bytes (a b c d : Byte) :
    bits (place a 0 ||| place b 8 ||| place c 16 ||| place d 24) 0 8 = a ∧
      bits (place a 0 ||| place b 8 ||| place c 16 ||| place d 24) 8 8 = b ∧
      bits (place a 0 ||| place b 8 ||| place c 16 ||| place d 24) 16 8 = c ∧
      bits (place a 0 ||| place b 8 ||| place c 16 ||| place d 24) 24 8 = d := by
  unfold bits place
  refine ⟨?_, ?_, ?_, ?_⟩ <;> ext i hi <;> interval_cases i <;> simp

theorem bits_of_half_and_byte (a : Half) (b : Byte) :
    bits (place a 0 ||| place b 16) 0 16 = a ∧ bits (place a 0 ||| place b 16) 16 8 = b := by
  unfold bits place
  refine ⟨?_, ?_⟩ <;> ext i hi <;> interval_cases i <;> simp

theorem getElem_flag (b : Bool) (lo : Nat) {j : Nat} (hj : j < 32) : (flag b lo)[j] = (b && decide (j = lo)) := by
  cases b with
  | false => simp [flag]
  | true =>
    rcases Nat.lt_trichotomy j lo with h | h | h
    · simp [flag, place, h, Nat.ne_of_lt h]
    · subst h
      simp [flag, place]
    · simp [flag, place, Nat.ne_of_gt h]
      omega

theorem bits_of_two_bytes_and_flags (a b : Byte) (p q r t : Bool) :
    bits (place a 0 ||| place b 8 ||| flag p 16 ||| flag q 17 ||| flag r 18 ||| flag t 19) 0 8 = a ∧
      bits (place a 0 ||| place b 8 ||| flag p 16 ||| flag q 17 ||| flag r 18 ||| flag t 19) 8 8 = b ∧
      (place a 0 ||| place b 8 ||| flag p 16 ||| flag q 17 ||| flag r 18 ||| flag t 19).getLsbD 16 = p ∧
      (place a 0 ||| place b 8 ||| flag p 16 ||| flag q 17 ||| flag r 18 ||| flag t 19).getLsbD 17 = q ∧
      (place a 0 ||| place b 8 ||| flag p 16 ||| flag q 17 ||| flag r 18 ||| flag t 19).getLsbD 18 = r ∧
      (place a 0 ||| place b 8 ||| flag p 16 ||| flag q 17 ||| flag r 18 ||| flag t 19).getLsbD 19 = t := by
  refine ⟨?_, ?_, ?_, ?_, ?_, ?_⟩
  · ext i hi
    interval_cases i <;> simp [bits, place, getElem_flag]
  · ext i hi
    interval_cases i <;> simp [bits, place, getElem_flag]
  all_goals simp [place, getElem_flag, BitVec.getLsbD_eq_getElem]

theorem pollSubCode_lt (x : PollSub) : pollSubCode x < 2 ^ 8 := by
  cases x <;> simp [pollSubCode]

theorem exec_meterQuery_accepted {h : CmdHeader} {s : State} (ha : Accepted .meterQuery h s) :
    exec (.meterQuery h) s = .next (finish s (meterQueryWork (hostParam s 1) (begun .meterQuery h s))) := by
  have hrun := exec_hostInstr_accepted ha
  simp only [runCommand, param_commit, Nat.reduceLT] at hrun
  exact hrun

theorem routeShown_iff (s : State) : s.routeShown = true ↔ s.route.state = .opened ∨ s.route.state = .closing := by
  simp [State.routeShown]

theorem meterQueryWork_wrongState {id : Word} {s : State} (hr : s.route.state = .noRoute) :
    meterQueryWork id s = respond stWrongState [] s := by
  have hs : s.routeShown = false := by simp [State.routeShown, hr]
  rw [meterQueryWork, hs]
  rfl

theorem meterQueryWork_badParam {id : Word} {s : State} (hr : s.routeShown = true) (hf : findMeter s.dir id = none) :
    meterQueryWork id s = respond stBadParam [] s := by
  simp only [meterQueryWork, hr, hf, Bool.not_true, Bool.false_eq_true, if_false]

theorem meterQueryWork_answers {id : Word} {i : Nat} {m : Meter} {s : State} (hr : s.routeShown = true)
    (hf : findMeter s.dir id = some i) (hm : s.dir[i]? = some m) :
    meterQueryWork id s = respond stOk (queryResults s i m) s := by
  simp only [meterQueryWork, hr, hf, hm, Bool.not_true, Bool.false_eq_true, if_false]

/-- The sub-state code of a meter's poll, 0 without one. -/
def pollCode (s : State) (i : Nat) : Nat :=
  match pollOf s i with
  | some e => pollSubCode e.sub
  | none => 0

theorem pollCode_some {s : State} {i : Nat} {e : PollEntry} (h : pollOf s i = some e) : pollCode s i = pollSubCode e.sub := by
  simp only [pollCode, h]

theorem pollCode_none {s : State} {i : Nat} (h : pollOf s i = none) : pollCode s i = 0 := by
  simp only [pollCode, h]

theorem pollCode_lt (s : State) (i : Nat) : pollCode s i < 2 ^ 8 := by
  cases h : pollOf s i with
  | none => rw [pollCode_none h]; decide
  | some e => rw [pollCode_some h]; exact pollSubCode_lt _

/-- R55: the fields of the seven result words. -/
theorem queryResults_fields (s : State) (i : Nat) (m : Meter) (hlen : m.window.length ≤ 4) :
    ∃ w1 w2 w3 w4 w5 w6 w7 : Word, queryResults s i m = [w1, w2, w3, w4, w5, w6, w7] ∧
      w1 = BitVec.ofNat 32 i ||| (BitVec.ofNat 32 (meterStateCode m.state) <<< 16) ∧
      (bits w2 0 8 = m.votes ∧ bits w2 8 8 = BitVec.ofNat 8 m.window.length ∧ bits w2 16 8 = m.repeats ∧
        bits w2 24 8 = m.flags) ∧
      (∀ c, m.confirmed = some c →
        w3 = c.reading.value.setWidth 32 ∧ bits w4 0 16 = c.reading.value.extractLsb' 32 16 ∧
          bits w4 16 8 = c.reading.unit ∧ w7 = c.stamp) ∧
      (m.confirmed = none → w3 = 0 ∧ w4 = 0 ∧ w7 = 0) ∧
      (bits w5 0 8 = m.causes ∧ bits w5 8 8 = m.written ∧ bits w5 16 8 = m.best.getD 0) ∧
      (∀ l, m.learned = some l → bits w5 24 8 = l.path.hops) ∧ (m.learned = none → bits w5 24 8 = 0xFF#8) ∧
      bits w6 0 8 = m.attempts ∧ bits w6 8 8 = BitVec.ofNat 8 (pollCode s i) ∧ w6.getLsbD 16 = m.best.isSome ∧
      w6.getLsbD 17 = m.first.isSome ∧ w6.getLsbD 18 = m.pendingNote ∧ w6.getLsbD 19 = m.ackPending := by
  refine ⟨_, _, _, _, _, _, _, rfl, by rw [num_zero, num], ?_, fun c hc => ?_, fun hc => ?_, ?_, fun l hl => ?_,
    fun hl => ?_, ?_⟩
  · rw [num_eq_place 8 8 (show m.window.length < 2 ^ 8 by omega)]
    exact bits_of_four_bytes _ _ _ _
  · rw [hc]
    obtain ⟨hvalue, hunit⟩ := bits_of_half_and_byte (c.reading.value.extractLsb' 32 16) c.reading.unit
    exact ⟨(BitVec.setWidth_eq_extractLsb' (by decide)).symm, hvalue, hunit, rfl⟩
  · rw [hc]
    exact ⟨by decide, by decide, rfl⟩
  · obtain ⟨hcauses, hwritten, hbest, _⟩ := bits_of_four_bytes m.causes m.written (m.best.getD 0)
      (match m.learned with
        | some l => l.path.hops
        | none => 0xFF#8)
    exact ⟨hcauses, hwritten, hbest⟩
  · rw [hl]
    exact (bits_of_four_bytes _ _ _ _).2.2.2
  · rw [hl]
    exact (bits_of_four_bytes _ _ _ _).2.2.2
  · have hfields := bits_of_two_bytes_and_flags m.attempts (BitVec.ofNat 8 (pollCode s i)) m.best.isSome m.first.isSome
      m.pendingNote m.ackPending
    rw [← num_eq_place 8 8 (pollCode_lt s i)] at hfields
    exact hfields

/-- Settles O33: the commit leaves the directory and the Poll List as they are, and the answer's fields are those of the packed
result words. -/
theorem meterQueryAnswersFromTheDirectory : Obligations.MeterQueryAnswersFromTheDirectory := by
  intro h s ha
  rw [exec_meterQuery_accepted ha]
  refine ⟨fun hr => ?_, fun hr hf => ?_, fun i m hr hf hm hw => ?_⟩
  · rw [meterQueryWork_wrongState (s := begun .meterQuery h s) hr]
    rfl
  · rw [meterQueryWork_badParam (s := begun .meterQuery h s) ((routeShown_iff s).mpr hr) hf]
    rfl
  · rw [meterQueryWork_answers (s := begun .meterQuery h s) ((routeShown_iff s).mpr hr) hf hm]
    obtain ⟨w1, w2, w3, w4, w5, w6, w7, hws, h1, ⟨hvotes, hwin, hrep, hflags⟩, hc, hnc, ⟨hcauses, hwritten, hbest⟩, hl,
      hnl, hatt, hsub, hb, hfst, hnote, hack⟩ := queryResults_fields (begun .meterQuery h s) i m hw
    rw [hws]
    exact ⟨w1, w2, w3, w4, w5, w6, w7, rfl, h1, hvotes, hwin, hrep, hflags, hc, hnc, hcauses, hwritten, hbest, hl, hnl,
      hatt, fun e he => hsub.trans (by rw [pollCode_some (s := begun .meterQuery h s) he]),
      fun he => hsub.trans (by rw [pollCode_none (s := begun .meterQuery h s) he]), hb, hfst, hnote, hack⟩

end Sys2Proof.Machine
end


section
/-! Adding polls, leaving a segment, and the commands that do so (R85 to R88, R93, R94). -/
namespace Sys2Proof.Machine

/-! ### Meters that stay unresolved leave their segment as it is (R85) -/

theorem movedSegs_unresolved (g : Nat) {old new : MeterState} (segs : List Segment) (ho : ¬Resolved old)
    (hn : ¬Resolved new) : movedSegs g old new segs = segs := by
  have hid : (fun x : Segment =>
      if Resolved new ∧ ¬Resolved old then
        (⟨if x.state = .sweep ∧ x.unresolved ≤ 1 then .done else x.state, x.unresolved - 1⟩ : Segment)
      else if Resolved old ∧ ¬Resolved new then ⟨x.state, x.unresolved + 1⟩
      else x) = id := by
    funext x
    rw [if_neg (fun h => hn h.1), if_neg (fun h => ho h.1), id]
  rw [movedSegs, hid]
  exact List.modify_id g segs

theorem movedEvents_unresolved (g : Nat) (old : MeterState) {new : MeterState} (segs : List Segment) (e : Events)
    (hn : ¬Resolved new) : movedEvents g old new segs e = e :=
  if_neg fun h => hn h.1

theorem not_resolved_polling : ¬Resolved .polling := by decide

/-! ### A poll is added (R93) -/

/-- R93: the entry of a meter whose poll begins. -/
def polledMeter (m : Meter) : Meter := { m with attempts := 0, state := .polling }

theorem addPoll_eq {m : Meter} {i : Nat} {s : State} (hm : s.dir[i]? = some m) :
    addPoll i s =
      { s with
        poll := { s.poll with list := s.poll.list ++ [⟨i, 1, none, .queued⟩] }
        dir := s.dir.modify i polledMeter
        route := { s.route with segs := movedSegs m.img.segment m.state .polling s.route.segs } } := by
  have hget : (s.dir.modify i fun x => { x with attempts := 0 })[i]? = some { m with attempts := 0 } := by
    rw [List.getElem?_modify_eq, hm]
    rfl
  unfold addPoll
  rw [setMeterState_eq (m := { m with attempts := 0 }) .polling hget]
  simp only [modMeter, List.modify_modify_eq, movedEvents_unresolved _ _ _ _ not_resolved_polling]
  rfl

/-- The entry at `i` after a change at `j`. -/
theorem getElem?_modify_ite {α : Type} (f : α → α) (l : List α) (i j : Nat) :
    (l.modify j f)[i]? = if i = j then l[i]?.map f else l[i]? := by
  rw [List.getElem?_modify]
  by_cases h : i = j
  · simp [h]
  · simp [h, Ne.symm h]

/-- R86: the meters that a walk takes: entries that are EXPECTED or HEARD, each once. -/
def Walkable (js : List Nat) (s : State) : Prop :=
  js.Nodup ∧ ∀ j ∈ js, ∃ m, s.dir[j]? = some m ∧ ¬Resolved m.state

/-- R86: the polls of a walk, added one after the other. -/
theorem addPolls_eq (js : List Nat) : ∀ {s : State}, Walkable js s →
    ∃ dir, js.foldl (fun u i => addPoll i u) s =
        { s with
          poll := { s.poll with list := s.poll.list ++ js.map fun i => ⟨i, 1, none, .queued⟩ }
          dir := dir } ∧
      ∀ i, dir[i]? = s.dir[i]?.map fun m => if i ∈ js then polledMeter m else m := by
  induction js with
  | nil => exact @fun s _ => ⟨s.dir, by simp, fun i => by simp⟩
  | cons j js ih =>
    intro s ⟨hnd, hex⟩
    obtain ⟨hj, hjs⟩ := List.nodup_cons.mp hnd
    obtain ⟨m, hm, hst⟩ := hex j List.mem_cons_self
    have hone : addPoll j s =
        { s with
          poll := { s.poll with list := s.poll.list ++ [⟨j, 1, none, .queued⟩] }
          dir := s.dir.modify j polledMeter } := by
      rw [addPoll_eq hm, movedSegs_unresolved _ _ hst not_resolved_polling]
    have hwalk : Walkable js (addPoll j s) := by
      refine ⟨hjs, fun k hk => ?_⟩
      obtain ⟨x, hx, hxs⟩ := hex k (List.mem_cons_of_mem _ hk)
      refine ⟨x, ?_, hxs⟩
      rw [hone]
      show (s.dir.modify j polledMeter)[k]? = _
      rw [getElem?_modify_ite, if_neg (fun h : k = j => hj (h ▸ hk)), hx]
    obtain ⟨dir, hfold, hdir⟩ := ih hwalk
    refine ⟨dir, ?_, fun i => ?_⟩
    · rw [List.foldl_cons, hfold, hone]
      simp
    · rw [hdir i, hone]
      show ((s.dir.modify j polledMeter)[i]?).map _ = _
      rw [getElem?_modify_ite]
      by_cases hij : i = j
      · subst hij
        simp [hj, Function.comp_def]
      · simp [hij]

/-! ### The walk of a segment left (R86) -/

theorem mem_walkOf_iff (s : State) (g i : Nat) :
    i ∈ walkOf s g ↔ ∃ m, s.dir[i]? = some m ∧ m.img.segment = g ∧ (m.state = .expected ∨ m.state = .heard) := by
  unfold walkOf
  rw [List.mem_filter, List.mem_range]
  cases hm : s.dir[i]? with
  | none => simp
  | some m =>
    have hi := (List.getElem?_eq_some_iff.mp hm).1
    simp [hi]

theorem walkOf_rising (s : State) (g : Nat) : (walkOf s g).Pairwise (· < ·) :=
  List.Pairwise.filter _ List.pairwise_lt_range

theorem walkable_walkOf (s : State) (g : Nat) : Walkable (walkOf s g) s := by
  refine ⟨(walkOf_rising s g).imp (fun h => Nat.ne_of_lt h), fun j hj => ?_⟩
  obtain ⟨m, hm, _, hst⟩ := (mem_walkOf_iff s g j).mp hj
  exact ⟨m, hm, fun hr => by rcases hst with h | h <;> rcases hr with hr | hr <;> simp [h] at hr⟩

/-- R86: the directory `dir` after the polls of the walk `js` are added. -/
def walkedDir (js : List Nat) (dir : List Meter) : List Meter :=
  dir.mapIdx fun i m => if i ∈ js then polledMeter m else m

theorem getElem?_walkedDir (js : List Nat) (dir : List Meter) (i : Nat) :
    (walkedDir js dir)[i]? = dir[i]?.map fun m => if i ∈ js then polledMeter m else m :=
  List.getElem?_mapIdx

theorem leftState_eq {s : State} {g : Nat} {x : Segment} (hx : s.route.segs[g]? = some x) :
    leftState s g = if 0 < x.unresolved then SegState.sweep else .done := by
  simp only [leftState, hx]

/-- R86: segment `g` is left: its walk is polled, it is SWEEP or DONE, and SEGMENT_DONE is raised with DONE. -/
theorem leaveSegment_eq {g : Nat} {left : SegState} {s : State} (hl : leftState s g = left) :
    leaveSegment g s =
      { s with
        poll := { s.poll with list := s.poll.list ++ (walkOf s g).map fun i => ⟨i, 1, none, .queued⟩ }
        dir := walkedDir (walkOf s g) s.dir
        route :=
          { s.route with
            segs := s.route.segs.modify g (fun z => { z with state := left }), activeSeg := none }
        ev := if left = .done then s.ev.occur .segmentDone else s.ev } := by
  obtain ⟨dir, hfold, hdir⟩ := addPolls_eq (walkOf s g) (walkable_walkOf s g)
  have hd : dir = walkedDir (walkOf s g) s.dir :=
    List.ext_getElem? fun i => (hdir i).trans (getElem?_walkedDir _ _ i).symm
  have hst : leftState ((walkOf s g).foldl (fun u i => addPoll i u) s) g = left := by
    rw [← hl, hfold]
    rfl
  unfold leaveSegment
  simp only [hst]
  rw [hfold, hd]
  split <;> rfl

theorem leaveActive_none {s : State} (h : s.route.activeSeg = none) : leaveActive s = s := by
  simp only [leaveActive, h]

theorem leaveActive_some {s : State} {g : Nat} (h : s.route.activeSeg = some g) : leaveActive s = leaveSegment g s := by
  simp only [leaveActive, h]

/-! ### POLL_NOW (R94) -/

theorem exec_pollNow_accepted {h : CmdHeader} {s : State} (ha : Accepted .pollNow h s) :
    exec (.pollNow h) s = .next (finish s (pollNowWork (hostParam s 1) (begun .pollNow h s))) := by
  have hrun := exec_hostInstr_accepted ha
  simp only [runCommand, param_commit, Nat.reduceLT] at hrun
  exact hrun

theorem pollNowWork_wrongState {id : Word} {s : State} (hr : s.route.state ≠ .opened) :
    pollNowWork id s = respond stWrongState [] s :=
  if_pos hr

theorem pollNowWork_badParam {id : Word} {s : State} (hr : s.route.state = .opened) (hf : findMeter s.dir id = none) :
    pollNowWork id s = respond stBadParam [] s := by
  rw [pollNowWork, if_neg (not_not_intro hr), hf]

theorem pollNowWork_refused {id : Word} {i : Nat} {m : Meter} {s : State} (hr : s.route.state = .opened)
    (hf : findMeter s.dir id = some i) (hm : s.dir[i]? = some m) (hst : m.state = .polling ∨ m.state = .read) :
    pollNowWork id s =
      respond stWrongState [BitVec.ofNat 32 i, 0, BitVec.ofNat 32 (meterStateCode m.state)] s := by
  rw [pollNowWork, if_neg (not_not_intro hr), hf]
  simp only [hm, if_pos hst, num_zero]

theorem pollNowWork_polls {id : Word} {i : Nat} {m : Meter} {s : State} (hr : s.route.state = .opened)
    (hf : findMeter s.dir id = some i) (hm : s.dir[i]? = some m) (hst : ¬(m.state = .polling ∨ m.state = .read)) :
    pollNowWork id s =
      respond stOk
        [BitVec.ofNat 32 i, BitVec.ofNat 32 (addPoll i s).poll.list.length, BitVec.ofNat 32 (meterStateCode m.state)]
        (addPoll i s) := by
  rw [pollNowWork, if_neg (not_not_intro hr), hf]
  simp only [hm, if_neg hst, num_zero]

/-- Settles O30: the commit leaves the route and the directory as they are; the accepted command is the addition of a poll. -/
theorem pollNowAddsAPoll : Obligations.PollNowAddsAPoll := by
  intro h s ha
  rw [exec_pollNow_accepted ha]
  refine ⟨fun hr => ?_, fun hr hf => ?_, fun i m hr hf hm hst => ?_, fun i m hr hf hm hnp hnr => ?_⟩
  · rw [pollNowWork_wrongState (s := begun .pollNow h s) hr]
    rfl
  · rw [pollNowWork_badParam (s := begun .pollNow h s) hr hf]
    rfl
  · rw [pollNowWork_refused (s := begun .pollNow h s) hr hf hm hst]
    rfl
  · rw [pollNowWork_polls (s := begun .pollNow h s) hr hf hm (by simp [hnp, hnr]),
      addPoll_eq (s := begun .pollNow h s) hm]
    refine ⟨_, rfl, rfl, rfl, rfl, rfl, ?_, fun j hj => ?_, rfl, rfl, rfl, rfl⟩
    · show (s.dir.modify i polledMeter)[i]? = _
      rw [List.getElem?_modify_eq, hm]
      rfl
    · exact (getElem?_modify_ite _ _ _ _).trans (if_neg hj)

/-! ### SEGMENT_ENTER and SEGMENT_LEAVE (R87, R88) -/

theorem exec_segmentEnter_accepted {h : CmdHeader} {s : State} (ha : Accepted .segmentEnter h s) :
    exec (.segmentEnter h) s = .next (finish s (segmentEnterWork (hostParam s 1) (begun .segmentEnter h s))) := by
  have hrun := exec_hostInstr_accepted ha
  simp only [runCommand, param_commit, Nat.reduceLT] at hrun
  exact hrun

theorem exec_segmentLeave_accepted {h : CmdHeader} {s : State} (ha : Accepted .segmentLeave h s) :
    exec (.segmentLeave h) s = .next (finish s (segmentLeaveWork (begun .segmentLeave h s))) :=
  exec_hostInstr_accepted ha

theorem segmentEnterWork_wrongState {n : Word} {s : State} (hr : s.route.state ≠ .opened) :
    segmentEnterWork n s = respond stWrongState [] s :=
  if_pos hr

theorem segmentEnterWork_badParam {n : Word} {s : State} (hr : s.route.state = .opened)
    (hn : s.route.params.segCount.toNat ≤ n.toNat) : segmentEnterWork n s = respond stBadParam [] s := by
  rw [segmentEnterWork, if_neg (not_not_intro hr), if_pos hn]

theorem segmentEnterWork_enters {n : Word} {s : State} (hr : s.route.state = .opened)
    (hn : n.toNat < s.route.params.segCount.toNat) :
    segmentEnterWork n s =
      respond stOk
        [n, leftSegWord s, num (walkCount s) 0, leftStateWord s (leaveActive s), segCodeWord (leaveActive s) n.toNat,
          num (enterSegment n.toNat (leaveActive s)).poll.list.length 0]
        (enterSegment n.toNat (leaveActive s)) := by
  rw [segmentEnterWork, if_neg (not_not_intro hr), if_neg (Nat.not_le.mpr hn)]

theorem segmentLeaveWork_wrongState {s : State} (hr : s.route.state ≠ .opened ∨ s.route.activeSeg = none) :
    segmentLeaveWork s = respond stWrongState [] s := by
  by_cases ho : s.route.state = .opened
  · rw [segmentLeaveWork, if_neg (not_not_intro ho), if_pos (hr.resolve_left (not_not_intro ho))]
  · exact if_pos ho

theorem segmentLeaveWork_leaves {g : Nat} {s : State} (hr : s.route.state = .opened) (hg : s.route.activeSeg = some g) :
    segmentLeaveWork s =
      respond stOk
        [leftSegWord s, num (walkCount s) 0, leftStateWord s (leaveActive s),
          num (leaveActive s).poll.list.length 0]
        (leaveActive s) := by
  rw [segmentLeaveWork, if_neg (not_not_intro hr), if_neg (by simp [hg])]

/-- The result words about the segment left, none when there is none. -/
theorem leftWords_none {s : State} (hg : s.route.activeSeg = none) (t : State) :
    leftSegWord s = 0xFFFFFFFF#32 ∧ walkCount s = 0 ∧ leftStateWord s t = 0xFFFFFFFF#32 := by
  simp only [leftSegWord, walkCount, leftStateWord, hg]
  exact ⟨rfl, trivial, rfl⟩

theorem leftWords_some {s t : State} {g : Nat} {x : Segment} {left : SegState} (hg : s.route.activeSeg = some g)
    (hx : s.route.segs[g]? = some x) (ht : t.route.segs = s.route.segs.modify g (fun z => { z with state := left })) :
    leftSegWord s = BitVec.ofNat 32 g ∧ walkCount s = (walkOf s g).length ∧
      leftStateWord s t = BitVec.ofNat 32 (segStateCode left) := by
  have hget : t.route.segs[g]? = some { x with state := left } := by
    rw [ht, List.getElem?_modify_eq, hx]
    rfl
  simp only [leftSegWord, walkCount, leftStateWord, hg, hget, num_zero, and_self]

theorem segCodeWord_eq {s : State} {n : Nat} {y : Segment} (hy : s.route.segs[n]? = some y) :
    segCodeWord s n = BitVec.ofNat 32 (segStateCode y.state) := by
  simp only [segCodeWord, hy, num_zero]

theorem getElem?_walkedDir_some {s : State} {g i : Nat} {m : Meter} (hm : s.dir[i]? = some m) :
    (walkedDir (walkOf s g) s.dir)[i]? = some (if i ∈ walkOf s g then polledMeter m else m) := by
  rw [getElem?_walkedDir, hm]
  rfl

/-- Settles O29: what leaving does to the segment, its meters and the Poll List is `leaveSegment_eq`; the two commands are the
checks of R87 and R88 before it. -/
theorem segmentsAreEnteredAndLeft : Obligations.SegmentsAreEnteredAndLeft := by
  refine ⟨fun s g => ⟨mem_walkOf_iff s g, walkOf_rising s g⟩, fun h s ha => ?_, fun h s ha => ?_⟩
  · rw [exec_segmentEnter_accepted ha]
    refine ⟨fun hr => ?_, fun hr hn => ?_, fun x hr hn hg hx => ?_, fun g n x y left hr hn hlt hg hx hy hl => ?_⟩
    · rw [segmentEnterWork_wrongState (s := begun .segmentEnter h s) hr]
      rfl
    · rw [segmentEnterWork_badParam (s := begun .segmentEnter h s) hr hn]
      rfl
    · obtain ⟨hseg, hcount, hstate⟩ := leftWords_none (s := begun .segmentEnter h s) hg (begun .segmentEnter h s)
      rw [segmentEnterWork_enters (s := begun .segmentEnter h s) hr hn,
        leaveActive_none (s := begun .segmentEnter h s) hg, hseg, hcount, hstate,
        segCodeWord_eq (s := begun .segmentEnter h s) hx, num_zero, num_zero]
      rfl
    · subst hn
      have hleave := leaveSegment_eq ((leftState_eq (s := begun .segmentEnter h s) hx).trans hl.symm)
      have hy' : (leaveSegment g (begun .segmentEnter h s)).route.segs[(hostParam s 1).toNat]? =
          some { y with state := if (hostParam s 1).toNat = g then left else y.state } := by
        rw [hleave]
        show (s.route.segs.modify g (fun z => { z with state := left }))[(hostParam s 1).toNat]? = _
        rw [getElem?_modify_ite, hy]
        split <;> rfl
      obtain ⟨hseg, hcount, hstate⟩ := leftWords_some (s := begun .segmentEnter h s)
        (t := leaveSegment g (begun .segmentEnter h s)) hg hx (by rw [hleave])
      rw [segmentEnterWork_enters (s := begun .segmentEnter h s) hr hlt,
        leaveActive_some (s := begun .segmentEnter h s) hg, hseg, hcount, hstate, segCodeWord_eq hy', num_zero, num_zero,
        hleave]
      exact ⟨_, rfl, rfl, rfl, rfl, rfl, rfl, fun i m hm => getElem?_walkedDir_some hm, rfl, rfl, rfl, rfl, rfl⟩
  · rw [exec_segmentLeave_accepted ha]
    refine ⟨fun hr => ?_, fun g x left hr hg hx hl => ?_⟩
    · rw [segmentLeaveWork_wrongState (s := begun .segmentLeave h s) hr]
      rfl
    · have hleave := leaveSegment_eq ((leftState_eq (s := begun .segmentLeave h s) hx).trans hl.symm)
      obtain ⟨hseg, hcount, hstate⟩ := leftWords_some (s := begun .segmentLeave h s)
        (t := leaveSegment g (begun .segmentLeave h s)) hg hx (by rw [hleave])
      rw [segmentLeaveWork_leaves (s := begun .segmentLeave h s) hr hg,
        leaveActive_some (s := begun .segmentLeave h s) hg, hseg, hcount, hstate, num_zero, num_zero, hleave]
      exact ⟨_, rfl, rfl, rfl, rfl, rfl, rfl, fun i m hm => getElem?_walkedDir_some hm, rfl, rfl, rfl, rfl, rfl, rfl⟩

end Sys2Proof.Machine
end


section
/-! ROUTE_CLOSE on an accepted header (R154 to R159). -/
namespace Sys2Proof.Machine

/-! ### The active segment is left, if there is one (R155, step 1) -/

/-- R155: the walk of the active segment. -/
def activeWalk (s : State) : List Nat :=
  match s.route.activeSeg with
  | some g => walkOf s g
  | none => []

theorem activeWalk_none {s : State} (h : s.route.activeSeg = none) : activeWalk s = [] := by
  simp only [activeWalk, h]

theorem activeWalk_some {s : State} {g : Nat} (h : s.route.activeSeg = some g) : activeWalk s = walkOf s g := by
  simp only [activeWalk, h]

/-- R155: what the active segment's leaving does to the segment table and to the events. -/
def SegmentLeft (s : State) (segs : List Segment) (ev : Events) : Prop :=
  (s.route.activeSeg = none → segs = s.route.segs ∧ ev = s.ev) ∧
    ∀ g, s.route.activeSeg = some g →
      segs = s.route.segs.modify g (fun z => { z with state := leftState s g }) ∧
        ev = if leftState s g = .done then s.ev.occur .segmentDone else s.ev

theorem walkedDir_nil (dir : List Meter) : walkedDir [] dir = dir := by
  apply List.ext_getElem?
  intro i
  rw [getElem?_walkedDir]
  simp

theorem leaveActive_eq (s : State) :
    ∃ segs ev, SegmentLeft s segs ev ∧
      leaveActive s =
        { s with
          poll := { s.poll with list := s.poll.list ++ (activeWalk s).map fun i => ⟨i, 1, none, .queued⟩ }
          dir := walkedDir (activeWalk s) s.dir
          route := { s.route with segs := segs, activeSeg := none }
          ev := ev } := by
  cases hg : s.route.activeSeg with
  | none =>
    refine ⟨s.route.segs, s.ev, ⟨fun _ => ⟨rfl, rfl⟩, fun g h => nomatch hg.symm.trans h⟩, ?_⟩
    rw [leaveActive_none hg, activeWalk_none hg, walkedDir_nil, ← hg, List.map_nil, List.append_nil]
  | some g =>
    refine ⟨_, _, ⟨fun h => (nomatch hg.symm.trans h), fun j h => ?_⟩,
      (leaveActive_some hg).trans (activeWalk_some hg ▸ leaveSegment_eq rfl)⟩
    obtain rfl : g = j := Option.some.inj (hg.symm.trans h)
    exact ⟨rfl, rfl⟩

/-! ### Every poll is removed (R155, step 2) -/

/-- R155: the entry of a meter whose poll the close removes. -/
def closedMeter (m : Meter) : Meter := { m with state := closedPollState m }

theorem closedMeter_closedMeter (m : Meter) : closedMeter (closedMeter m) = closedMeter m := rfl

theorem not_resolved_closed (m : Meter) : ¬Resolved (closedPollState m) := by
  unfold closedPollState
  split <;> decide

theorem cutPoll_eq (s : State) (e : PollEntry) :
    ∃ segs ev, cutPoll s e =
        { s with
          poll := { s.poll with list := s.poll.list.filter fun x => decide (x.index ≠ e.index) }
          dir := s.dir.modify e.index closedMeter
          route := { s.route with segs := segs }
          ev := ev } ∧
      ((∀ m, s.dir[e.index]? = some m → ¬Resolved m.state) → segs = s.route.segs ∧ ev = s.ev) := by
  unfold cutPoll
  cases hm : s.dir[e.index]? with
  | none =>
    refine ⟨s.route.segs, s.ev, ?_, fun _ => ⟨rfl, rfl⟩⟩
    rw [List.modify_eq_self (List.getElem?_eq_none_iff.mp hm)]
    rfl
  | some m =>
    have hdir : s.dir.modify e.index (fun x => { x with state := closedPollState m }) =
        s.dir.modify e.index closedMeter := by
      apply List.ext_getElem?
      intro i
      rw [getElem?_modify_ite, getElem?_modify_ite]
      split
      · rename_i hi
        rw [hi, hm]
        rfl
      · rfl
    refine ⟨movedSegs m.img.segment m.state (closedPollState m) s.route.segs,
      movedEvents m.img.segment m.state (closedPollState m) s.route.segs s.ev, ?_, fun h =>
      ⟨movedSegs_unresolved _ _ (h m rfl) (not_resolved_closed m),
        movedEvents_unresolved _ _ _ _ (not_resolved_closed m)⟩⟩
    rw [← hdir]
    exact setMeterState_eq (s := removePoll e.index s) _ hm

/-- R155: the polls of `l` are removed, one after the other. -/
theorem cutList_eq (l : List PollEntry) : ∀ s : State,
    ∃ dir segs ev, l.foldl cutPoll s =
        { s with
          poll := { s.poll with list := s.poll.list.filter fun x => decide (x.index ∉ l.map fun e => e.index) }
          dir := dir
          route := { s.route with segs := segs }
          ev := ev } ∧
      (∀ i, dir[i]? = s.dir[i]?.map fun m => if i ∈ l.map (fun e => e.index) then closedMeter m else m) ∧
      ((∀ e ∈ l, ∀ m, s.dir[e.index]? = some m → ¬Resolved m.state) → segs = s.route.segs ∧ ev = s.ev) := by
  induction l with
  | nil => exact fun s => ⟨s.dir, s.route.segs, s.ev, by simp, fun i => by simp, fun _ => ⟨rfl, rfl⟩⟩
  | cons e l ih =>
    intro s
    obtain ⟨segs, ev, hcut, hkeep⟩ := cutPoll_eq s e
    obtain ⟨dir, segs', ev', hfold, hdir, hkeep'⟩ := ih (cutPoll s e)
    refine ⟨dir, segs', ev', ?_, fun i => ?_, fun h => ?_⟩
    · rw [List.foldl_cons, hfold, hcut]
      simp only [List.filter_filter, List.map_cons, List.mem_cons, not_or, Bool.decide_and, Bool.and_comm]
    · rw [hdir i, hcut]
      show ((s.dir.modify e.index closedMeter)[i]?).map _ = _
      rw [getElem?_modify_ite]
      by_cases hi : i = e.index
      · subst hi
        simp [Function.comp_def, closedMeter_closedMeter]
      · simp [hi]
    · obtain ⟨hs, he⟩ := hkeep (h e List.mem_cons_self)
      rw [hcut] at hkeep'
      have hstill : ∀ x ∈ l, ∀ m, (s.dir.modify e.index closedMeter)[x.index]? = some m → ¬Resolved m.state := by
        intro x hx m hm
        rw [getElem?_modify_ite] at hm
        split at hm
        · obtain ⟨y, _, rfl⟩ := Option.map_eq_some_iff.mp hm
          exact not_resolved_closed y
        · exact h x (List.mem_cons_of_mem _ hx) m hm
      obtain ⟨hs', he'⟩ := hkeep' hstill
      exact ⟨hs'.trans hs, he'.trans he⟩

/-- R155: the entries whose polls the close removes. -/
def cutBy (s : State) : List Nat := s.poll.list.map (fun e => e.index) ++ activeWalk s

/-- R155: the directory after step 2. -/
def closedDir (s : State) : List Meter :=
  s.dir.mapIdx fun i m =>
    if i ∈ cutBy s then
      { m with
        state := if m.window = [] then .expected else .heard
        attempts := if i ∈ activeWalk s then 0 else m.attempts }
    else m

theorem leaveActive_cut (s : State) : (leaveActive s).poll.list.map (fun e => e.index) = cutBy s := by
  obtain ⟨segs, ev, _, h⟩ := leaveActive_eq s
  rw [h]
  simp [cutBy, Function.comp_def]

theorem closedPollState_eq (m : Meter) : closedPollState m = if m.window = [] then .expected else .heard := by
  simp only [closedPollState, List.isEmpty_iff]

/-- R155: steps 1 and 2 together. -/
theorem cutPolls_leaveActive (s : State) :
    ∃ segs ev, cutPolls (leaveActive s) =
        { s with
          poll := { s.poll with list := [] }
          dir := closedDir s
          route := { s.route with segs := segs, activeSeg := none }
          ev := ev } ∧
      ((∀ e ∈ s.poll.list, ∀ m, s.dir[e.index]? = some m → m.state = .polling) → SegmentLeft s segs ev) := by
  obtain ⟨segs, ev, hleft, hleave⟩ := leaveActive_eq s
  obtain ⟨dir, segs', ev', hfold, hdir, hkeep⟩ := cutList_eq (leaveActive s).poll.list (leaveActive s)
  refine ⟨segs', ev', ?_, fun hpoll => ?_⟩
  · have hlist : (leaveActive s).poll.list.filter
        (fun x => decide (x.index ∉ (leaveActive s).poll.list.map fun e => e.index)) = [] := by
      rw [List.filter_eq_nil_iff]
      intro e he
      simpa using ⟨e, he, rfl⟩
    have hd : dir = closedDir s := by
      apply List.ext_getElem?
      intro i
      rw [hdir i, leaveActive_cut, closedDir, List.getElem?_mapIdx, hleave]
      show ((walkedDir (activeWalk s) s.dir)[i]?).map _ = _
      rw [getElem?_walkedDir, Option.map_map]
      congr 1
      funext m
      have hmem : i ∈ activeWalk s → i ∈ cutBy s := fun hi => List.mem_append_right _ hi
      by_cases hw : i ∈ activeWalk s
      · simp [hw, hmem hw, closedMeter, closedPollState_eq, polledMeter]
      · by_cases hc : i ∈ cutBy s <;> simp [hw, hc, closedMeter, closedPollState_eq]
    rw [cutPolls, hfold, hlist, hd, hleave]
  · have hstill : ∀ e ∈ (leaveActive s).poll.list, ∀ m, (leaveActive s).dir[e.index]? = some m → ¬Resolved m.state := by
      rw [hleave]
      intro e he m hm
      change (walkedDir (activeWalk s) s.dir)[e.index]? = some m at hm
      rw [getElem?_walkedDir] at hm
      obtain ⟨x, hx, rfl⟩ := Option.map_eq_some_iff.mp hm
      by_cases hw : e.index ∈ activeWalk s
      · rw [if_pos hw]
        exact not_resolved_polling
      · rw [if_neg hw]
        rcases List.mem_append.mp he with he | he
        · rw [hpoll e he x hx]
          exact not_resolved_polling
        · obtain ⟨i, hi, rfl⟩ := List.mem_map.mp he
          exact absurd hi hw
    obtain ⟨hs, he⟩ := hkeep hstill
    rw [hs, he, hleave]
    exact hleft

/-! ### The MISS requests (R157) -/

theorem mem_missRequests {dir : List Meter} {cut : List Nat} {i : Nat} {r : MissReason} :
    (i, r) ∈ missRequests dir cut ↔
      ∃ m, dir[i]? = some m ∧ m.requested = false ∧ r = missReason m (cut.contains i) := by
  unfold missRequests
  rw [List.mem_filterMap]
  constructor
  · rintro ⟨j, _, hj⟩
    cases hm : dir[j]? with
    | none => simp [hm] at hj
    | some m =>
      by_cases hr : m.requested = true
      · simp [hm, hr] at hj
      · obtain ⟨rfl, rfl⟩ : j = i ∧ missReason m (cut.contains j) = r := by simpa [hm, hr] using hj
        exact ⟨m, hm, by simpa using hr, rfl⟩
  · rintro ⟨m, hm, hr, rfl⟩
    exact ⟨i, List.mem_range.mpr (List.getElem?_eq_some_iff.mp hm).1, by simp [hm, hr]⟩

theorem missRequests_rising (dir : List Meter) (cut : List Nat) :
    ((missRequests dir cut).map fun r => r.1).Pairwise (· < ·) := by
  rw [List.pairwise_map, missRequests]
  refine List.Pairwise.filterMap _ (fun i j hij x hx y hy => ?_) List.pairwise_lt_range
  have hkey : ∀ {k : Nat} {z : Nat × MissReason},
      (match dir[k]? with
        | some m => if m.requested then none else some (k, missReason m (cut.contains k))
        | none => none) = some z → z.1 = k := by
    intro k z hz
    split at hz
    · split at hz
      · exact nomatch hz
      · exact congrArg Prod.fst (Option.some.inj hz).symm
    · exact nomatch hz
  rw [hkey hx, hkey hy]
  exact hij

theorem missReason_eq (m : Meter) (i : Nat) (cut : List Nat) :
    missReason m (cut.contains i) =
      if m.state = .unreachable then MissReason.pollFailed
      else if i ∈ cut ∧ m.attempts ≠ 0 then .pollCancelled
      else if m.window ≠ [] then .unconfirmed else .notHeard := by
  simp [missReason]

/-! ### The command -/

theorem exec_routeClose_accepted {h : CmdHeader} {s : State} (ha : Accepted .routeClose h s) :
    exec (.routeClose h) s = .next (finish s (routeCloseWork (begun .routeClose h s))) :=
  exec_hostInstr_accepted ha

theorem routeCloseWork_wrongState {s : State} (hr : s.route.state ≠ .opened) :
    routeCloseWork s = respond stWrongState [] s :=
  if_pos hr

/-- R154 to R159: the close event on an open route, with its segment table and events. -/
theorem routeCloseWork_closes {s : State} (hr : s.route.state = .opened) :
    ∃ segs ev, routeCloseWork s =
        respond stOk
          [BitVec.ofNat 32 (s.sm.backlog ++
              (missRequests (closedDir s) (cutBy s)).map (fun r : Nat × MissReason => Request.miss r.1 r.2) ++
              [Request.summary]).length,
            BitVec.ofNat 32 (countReason (missRequests (closedDir s) (cutBy s)) .notHeard) |||
              (BitVec.ofNat 32 (countReason (missRequests (closedDir s) (cutBy s)) .unconfirmed) <<< 16),
            BitVec.ofNat 32 (countReason (missRequests (closedDir s) (cutBy s)) .pollCancelled) |||
              (BitVec.ofNat 32 (countReason (missRequests (closedDir s) (cutBy s)) .pollFailed) <<< 16),
            BitVec.ofNat 32 (cutBy s).length, leftSegWord s,
            BitVec.ofNat 32 ((closedDir s).countP fun m => decide (m.state = .read)) |||
              (BitVec.ofNat 32 ((closedDir s).countP fun m => decide (m.state = .unreachable)) <<< 16),
            s.route.number.setWidth 32]
          (requestMisses (missRequests (closedDir s) (cutBy s))
            { s with
              poll := { s.poll with list := [] }
              dir := closedDir s
              route := { s.route with segs := segs, activeSeg := none }
              ev := ev }) ∧
      ((∀ e ∈ s.poll.list, ∀ m, s.dir[e.index]? = some m → m.state = .polling) → SegmentLeft s segs ev) := by
  obtain ⟨segs, ev, hcut, hleft⟩ := cutPolls_leaveActive s
  refine ⟨segs, ev, ?_, hleft⟩
  have hlen : (leaveActive s).poll.list.length = (cutBy s).length := by rw [← leaveActive_cut, List.length_map]
  have hread (st : MeterState) : ((closedDir s).map fun m => { m with requested := true }).countP
      (fun m => decide (m.state = st)) = (closedDir s).countP fun m => decide (m.state = st) := by
    rw [List.countP_map]
    rfl
  rw [routeCloseWork, if_neg (not_not_intro hr)]
  simp only [leaveActive_cut, hcut, hlen, place_zero, num, BitVec.shiftLeft_zero]
  simp only [requestMisses, State.metersRead, State.metersUnreachable, State.routeShown, hread]
  rfl

theorem leftSegWord_eq (s : State) :
    leftSegWord s =
      match s.route.activeSeg with
      | none => 0xFFFFFFFF#32
      | some g => BitVec.ofNat 32 g := by
  unfold leftSegWord
  cases s.route.activeSeg with
  | none => rfl
  | some g => exact num_zero g

/-- Settles O32: `routeCloseWork_closes` gives the close event whole; the rest are the parts of it that the statement names, and
the rules of the MISS requests. -/
theorem routeCloseRequestsTheRecords : Obligations.RouteCloseRequestsTheRecords := by
  refine ⟨fun h s ha => ?_, fun dir cut => ⟨missRequests_rising dir cut, fun r hr => ?_⟩, fun dir cut i m hm => ⟨?_, ?_⟩⟩
  · rw [exec_routeClose_accepted ha]
    refine ⟨fun hr => ?_, fun hr => ?_, fun walked cut dir misses hr hw hcut hdir hmiss => ?_, fun hr hpoll => ?_⟩
    · rw [routeCloseWork_wrongState (s := begun .routeClose h s) hr]
      rfl
    · obtain ⟨segs, ev, hwork, _⟩ := routeCloseWork_closes (s := begun .routeClose h s) hr
      rw [hwork]
      exact ⟨_, rfl, rfl, rfl, rfl, rfl, rfl, rfl, rfl, rfl, rfl⟩
    · have hwalk : walked = activeWalk (begun .routeClose h s) := by
        rcases hw with ⟨hg, hw⟩ | ⟨g, hg, hw⟩
        · rw [hw, activeWalk_none (s := begun .routeClose h s) hg]
        · rw [hw, activeWalk_some (s := begun .routeClose h s) hg]
          rfl
      have hc : cut = cutBy (begun .routeClose h s) := by rw [hcut, hwalk]; rfl
      have hd : dir = closedDir (begun .routeClose h s) := by rw [hdir, hc, hwalk]; rfl
      obtain ⟨segs, ev, hwork, _⟩ := routeCloseWork_closes (s := begun .routeClose h s) hr
      rw [← hc, ← hd, ← hmiss, leftSegWord_eq] at hwork
      rw [hwork]
      exact ⟨_, rfl, rfl, rfl, rfl, rfl⟩
    · obtain ⟨segs, ev, hwork, hleft⟩ := routeCloseWork_closes (s := begun .routeClose h s) hr
      obtain ⟨hnone, hsome⟩ := hleft hpoll
      rw [hwork]
      refine ⟨_, rfl, hnone, fun g x left hg hx hl => ?_⟩
      have hst : leftState (begun .routeClose h s) g = left := (leftState_eq hx).trans hl.symm
      obtain ⟨hsegs, hev⟩ := hsome g hg
      rw [hst] at hsegs hev
      exact ⟨hsegs, hev⟩
  · obtain ⟨m, hm, _⟩ := mem_missRequests.mp (show (r.1, r.2) ∈ missRequests dir cut from hr)
    exact (List.getElem?_eq_some_iff.mp hm).1
  · intro hr r hmem
    obtain ⟨x, hx, hreq, _⟩ := mem_missRequests.mp hmem
    obtain rfl := Option.some.inj (hm.symm.trans hx)
    exact nomatch hr.symm.trans hreq
  · intro hr
    rw [← missReason_eq]
    exact mem_missRequests.mpr ⟨m, hm, hr, rfl⟩

end Sys2Proof.Machine
end


section
/-! Upstream accesses in the window of their address: blocked writes, writes that pass, and a commit while a command is in
flight (R2 to R9, R30). -/
namespace Sys2Proof.Machine

/-! ### The shadow of a word (R5) -/

/-- An address in a window lies in the Part Area at the window's offset. -/
theorem windowOf_eq {sel : BitVec 3} {a : Nat} {win : Window} (h : windowOf sel a = win) (hp : win ≠ .plain) :
    ∃ off, a = partBase sel + off ∧ windowAt off = win := by
  unfold windowOf at h
  split at h
  · exact ⟨a - partBase sel, by omega, h⟩
  · exact absurd h.symm hp

/-- The word numbers in the Part Area of the words of a shadowed window. -/
def Window.keyIs (key : Nat) : Window → Prop
  | .command n => key = n
  | .position n => key = 24 + n
  | .capture k n => key = 4096 + 16 * k + n
  | _ => True

theorem ite_keyIs {key : Nat} {c : Prop} [Decidable c] {x y : Window} (hx : c → x.keyIs key) (hy : ¬c → y.keyIs key) :
    (if c then x else y).keyIs key := by
  split
  · exact hx ‹c›
  · exact hy ‹¬c›

/-- The shadow key of an offset is its word number. -/
theorem windowAt_keyIs (off : Nat) : (windowAt off).keyIs (off / 4) := by
  unfold windowAt
  refine ite_keyIs (fun _ => rfl) fun h0 => ite_keyIs (fun _ => trivial) fun h1 => ite_keyIs (fun _ => ?_) fun _ =>
    ite_keyIs (fun _ => trivial) fun _ => ite_keyIs (fun _ => trivial) fun _ => ite_keyIs (fun _ => trivial) fun _ =>
    ite_keyIs (fun _ => trivial) fun _ => ite_keyIs (fun _ => trivial) fun _ => ite_keyIs (fun _ => trivial) fun _ =>
    ite_keyIs (fun _ => trivial) fun h9 => ite_keyIs (fun _ => ?_) fun _ => ite_keyIs (fun _ => trivial) fun _ =>
    ite_keyIs (fun _ => trivial) fun _ => ite_keyIs (fun _ => trivial) fun _ => ite_keyIs (fun _ => trivial) fun _ => trivial
  · show off / 4 = 24 + (off - 0x60) / 4
    omega
  · show off / 4 = 4096 + 16 * ((off - 0x4000) / 64) + (off - 0x4000) % 64 / 4
    omega

theorem shadowKey_at (sel : BitVec 3) (off : Nat) : shadowKey sel (partBase sel + off) = off / 4 := by
  rw [shadowKey, Nat.add_sub_cancel_left]

theorem shadowKey_of_command {sel : BitVec 3} {a n : Nat} (h : windowOf sel a = .command n) : shadowKey sel a = n := by
  obtain ⟨off, rfl, hoff⟩ := windowOf_eq h (by simp)
  have hkey := windowAt_keyIs off
  rw [hoff] at hkey
  rw [shadowKey_at]
  exact hkey

theorem shadowKey_of_position {sel : BitVec 3} {a n : Nat} (h : windowOf sel a = .position n) :
    shadowKey sel a = 24 + n := by
  obtain ⟨off, rfl, hoff⟩ := windowOf_eq h (by simp)
  have hkey := windowAt_keyIs off
  rw [hoff] at hkey
  rw [shadowKey_at]
  exact hkey

theorem shadowKey_of_capture {sel : BitVec 3} {a k n : Nat} (h : windowOf sel a = .capture k n) :
    shadowKey sel a = 4096 + 16 * k + n := by
  obtain ⟨off, rfl, hoff⟩ := windowOf_eq h (by simp)
  have hkey := windowAt_keyIs off
  rw [hoff] at hkey
  rw [shadowKey_at]
  exact hkey

/-- R5: byte `i` of a merged word. -/
theorem extract_mergeBytes (old new : Word) (be : BitVec 4) {i : Nat} (hi : i < 4) :
    (mergeBytes old new be).extractLsb' (8 * i) 8 =
      if be.getLsbD i then new.extractLsb' (8 * i) 8 else old.extractLsb' (8 * i) 8 :=
  extract_wordOf (fun i => if be.getLsbD i then byteOf new i else byteOf old i) hi

/-- R5: a write that passes a shadowed word outside the Status Page. -/
theorem passShadowed_eq {key a : Nat} (w : BusWord) (be : BitVec 4) {s : State} (hk : shadowKey s.path.areaSel a = key) :
    passShadowed a w be (unsnapped s) = shadowed key a w be s := by
  subst hk
  rfl

theorem storeWrite_eq (a : Nat) (w : BusWord) (be : BitVec 4) (s : State) :
    storeWrite a w be (unsnapped s) = written a w be s := rfl

theorem passSnapshot_eq {win : Window} (s : State) (h : win.isStatus = false) : passSnapshot win s = unsnapped s := by
  rw [passSnapshot, h]
  rfl

/-- Outside the Status Page nothing is blocked in a window unless R8 says so; the Status Page is. -/
theorem isStatus_of_blockReason {s : State} {win : Window} (h : blockReason s win = none) : win.isStatus = false := by
  cases win with
  | status n => exact nomatch h
  | _ => rfl

/-! ### What a write does in its window -/

theorem exec_upstreamWrite_in {addr : Word} {win : Window} (w : BusWord) (be : BitVec 4) {s : State} (hf : BusFree s)
    (hw : windowOf s.path.areaSel (accessAddr addr) = win) :
    exec (.upstreamWrite addr w be) s = .next (finish s (takeWriteIn win (accessAddr addr) w be s)) := by
  rw [← takeWrite_in hw]
  exact upstream_taken hf

/-- A write that is not blocked nor held, with what the queue has of its word removed. -/
theorem takeWriteIn_unblocked {addr : Nat} {w : BusWord} {be : BitVec 4} {s : State} {win : Window}
    (hb : blockReason s win = none) (hc : (isCaptureCommit s win be && judgeFull s) = false) :
    takeWriteIn win addr w be s = passWrite win addr w be (cancelQueued win addr (unsnapped s)) := by
  rw [takeWriteIn, hb]
  simp only [hc, Bool.false_eq_true, if_false, passSnapshot_eq s (isStatus_of_blockReason hb)]

theorem exec_write_passes {addr : Word} {win : Window} {w : BusWord} {be : BitVec 4} {s : State} (hf : BusFree s)
    (hw : windowOf s.path.areaSel (accessAddr addr) = win) (hb : blockReason s win = none)
    (hq : NotQueued s (accessAddr addr)) (hc : (isCaptureCommit s win be && judgeFull s) = false) :
    exec (.upstreamWrite addr w be) s = .next (finish s (passWrite win (accessAddr addr) w be (unsnapped s))) := by
  rw [exec_upstreamWrite_in w be hf hw, takeWriteIn_unblocked hb hc, cancelQueued_none (s := unsnapped s) hq]

theorem isCaptureCommit_capture (s : State) (k n : Nat) (be : BitVec 4) :
    isCaptureCommit s (.capture k n) be = (decide (n = 15) && decide (be = allLanes) && (s.capSlot k).armed) := by
  by_cases h : n = 15
  · subst h
    simp [isCaptureCommit]
  · unfold isCaptureCommit
    split
    · rename_i heq
      exact absurd (Window.capture.inj heq).2 h
    · simp [h]

theorem not_captureCommit {s : State} {k n : Nat} {be : BitVec 4} (h : n ≠ 15 ∨ be ≠ allLanes) :
    isCaptureCommit s (.capture k n) be = false := by
  rw [isCaptureCommit_capture]
  rcases h with h | h <;> simp [h]

/-! ### Windows whose words are shadowed -/

theorem passWrite_command {n a : Nat} {w : BusWord} {be : BitVec 4} {s : State}
    (hw : windowOf s.path.areaSel a = .command n) (hn : n ≠ 0 ∨ be ≠ allLanes) :
    passWrite (.command n) a w be (unsnapped s) = shadowed n a w be s := by
  rw [← passShadowed_eq w be (shadowKey_of_command hw)]
  exact if_neg fun h => hn.elim (· h.1) (· h.2)

theorem passWrite_commit (a : Nat) (w : BusWord) (s : State) :
    passWrite (.command 0) a w allLanes s = commitCommand (passShadowed a w allLanes s) := by
  unfold passWrite
  exact if_pos ⟨rfl, rfl⟩

theorem passWrite_position {n a : Nat} {w : BusWord} {be : BitVec 4} {s : State}
    (hw : windowOf s.path.areaSel a = .position n) (hn : n ≠ 3 ∨ be ≠ allLanes) :
    passWrite (.position n) a w be (unsnapped s) = shadowed (24 + n) a w be s := by
  rw [← passShadowed_eq w be (shadowKey_of_position hw)]
  exact if_neg fun h => hn.elim (· h.1) (· h.2)

theorem passWrite_capture {k n a : Nat} {w : BusWord} {be : BitVec 4} {s : State}
    (hc : isCaptureCommit s (.capture k n) be = false) (hn : n ≠ 0) :
    passWrite (.capture k n) a w be s = passShadowed a w be s := by
  unfold passWrite
  dsimp only
  rw [hc, if_neg Bool.false_ne_true, if_neg hn]

/-! ### Blocked writes (R8, R9) -/

theorem takeWriteIn_blocked {addr : Nat} {w : BusWord} {be : BitVec 4} {s : State} {win : Window} {reason : BlockReason}
    (h : blockReason s win = some reason) :
    takeWriteIn win addr w be s = blockWrite addr reason (passSnapshot win s) := by
  rw [takeWriteIn, h]

theorem blockReason_record_word {s : State} {k w : Nat} (hw : w ≤ 13) :
    blockReason s (.record k w) = some .recordBody :=
  if_pos (by omega)

/-- R8: whether record words 14 and 15 of slot `k` are blocked follows the slot's state. -/
theorem blockReason_record_slot {s : State} {k w : Nat} (hw : 14 ≤ w) :
    (s.slotState k = .inBatch → blockReason s (.record k w) = some .slotInBatch) ∧
      (s.slotState k ∈ [SlotState.unscanned, .quarantined, .free, .writing] →
        blockReason s (.record k w) = some .slotNotStored) ∧
      (s.slotState k = .stored → ∀ r, s.rowOf k = some r →
        blockReason s (.record k w) = if r.locked then some .slotLocked else none) := by
  unfold blockReason
  dsimp only
  rw [if_neg (by omega)]
  refine ⟨fun h => ?_, fun h => ?_, fun h r hr => ?_⟩
  · simp only [h]
  · cases hst : s.slotState k with
    | inBatch => simp [hst] at h
    | stored => simp [hst] at h
    | _ => rfl
  · simp only [h, hr]

theorem satInc_eq (c : Half) : satInc c = if c = 0xFFFF#16 then 0xFFFF#16 else c + 1 := by
  unfold satInc
  split
  · assumption
  · rfl

theorem blockWrite_eq (addr : Nat) (reason : BlockReason) (win : Window) (s : State) :
    blockWrite addr reason (passSnapshot win s) =
      { s with
        path :=
          { s.path with
            snapshot := if win.isStatus then s.path.snapshot else none
            blockedCount := if s.path.blockedCount = 0xFFFF#16 then 0xFFFF#16 else s.path.blockedCount + 1
            blockedAddr := BitVec.ofNat 32 addr, blockedReason := reason }
        ev := s.ev.occur .blocked } := by
  simp only [blockWrite, passSnapshot, raise, satInc_eq]

theorem exec_blockedWrite (addr : Word) (w : BusWord) (be : BitVec 4) (s : State) :
    exec (.blockedWrite addr w be) s = exec (.upstreamWrite addr w be) s := rfl

theorem blockReason_tx (s : State) (k w : Nat) :
    blockReason s (.tx k w) = if w ≤ 6 then some .partWord else none :=
  if_congr Nat.lt_succ_iff rfl rfl

/-- Settles O18: a write to a word that R8 blocks is the record of R9 alone, and R8's reasons are read off `blockReason`. -/
theorem blockedWritesAreDroppedAndReported : Obligations.BlockedWritesAreDroppedAndReported := by
  refine ⟨fun addr w be reason s hf hb => ?_, fun s k w => ?_⟩
  · refine ⟨_, rfl, ?_⟩
    rw [exec_blockedWrite, and_self, exec_upstreamWrite_in w be hf rfl, takeWriteIn_blocked hb, blockWrite_eq]
  · exact ⟨rfl, rfl, rfl, blockReason_tx s k w, blockReason_record_word, fun hw => (blockReason_record_slot hw).1,
      fun hw => (blockReason_record_slot hw).2.1, fun hw => (blockReason_record_slot hw).2.2, rfl, rfl, rfl, rfl, rfl⟩

/-! ### A commit while a command is in flight (R30) -/

/-- Settles O22: the commit passes, the shadow takes it, and the collision is marked. -/
theorem commitInFlightMarksACollision : Obligations.CommitInFlightMarksACollision := by
  intro w s hf hq hi
  have hw : windowOf s.path.areaSel (commandAddr s.path.areaSel 0) = .command 0 := windowOf_command _ (by decide)
  have hrun : exec (.commitCollision w) s =
      .next (finish s (takeWrite (commandAddr s.path.areaSel 0) w allLanes s)) := upstream_taken hf
  have hfl : (shadowed 0 (commandAddr s.path.areaSel 0) w allLanes s).cmd.inFlight = true := hi
  rw [hrun, takeWrite_passes hw rfl hq rfl, passSnapshot_eq s rfl, passWrite_commit,
    passShadowed_eq w allLanes (shadowKey_of_command hw), commitCommand, if_pos hfl]
  simp only [shadowed, written, unsnapped, mergeBytes_all]

end Sys2Proof.Machine
end


section
/-! Plain accesses pass, and what a write does to the queued writes of its word (R3, R5, R13, R14, R18, R22, R65, R100). -/
namespace Sys2Proof.Machine

/-! ### Reads outside the Status Page -/

theorem exec_upstreamRead_in {addr : Word} {win : Window} (be : BitVec 4) (d : Disturb) {s : State} (hf : BusFree s)
    (hw : windowOf s.path.areaSel (accessAddr addr) = win) :
    exec (.upstreamRead addr be d) s = .next (finish s (takeReadIn win (accessAddr addr) d s)) := by
  rw [← takeRead_in hw]
  exact upstream_taken hf

/-- A read outside the Status Page is answered, and its listener is told. -/
theorem takeReadIn_answers {win : Window} {a : Nat} {d : Disturb} {w : BusWord} {s : State}
    (hs : ∀ n, win ≠ .status n) (ha : Answers s a d w) :
    takeReadIn win a d s = readNotice win w.data (answered a w s) := by
  have hserve : serve s a d = w := serve_of_answers ha
  have hstat : win.isStatus = false := by
    cases win with
    | status n => exact absurd rfl (hs n)
    | _ => rfl
  unfold takeReadIn
  split
  · exact absurd rfl (hs 0)
  · exact absurd rfl (hs _)
  · rw [hserve, passSnapshot_eq s hstat]
    rfl

theorem readNotice_none {win : Window} (data : Word) (s : State) (hc : ∀ k, win ≠ .capture k 15)
    (hr : ∀ k n, win ≠ .record k n) : readNotice win data s = s := by
  unfold readNotice
  split
  · exact absurd rfl (hc _)
  · exact absurd rfl (hr _ _)
  · rfl

/-! ### The queued writes of the word that a write removes (R14) -/

theorem cancelQueued_some (win : Window) {a : Nat} {s : State} (h : ∃ e ∈ s.ins.entries, e.addr = a) :
    cancelQueued win a s =
      (s.ins.entries.filter fun e => decide (e.addr = a)).foldl (cancelNotice win) (unqueued a s) := by
  have hne : (s.ins.entries.filter fun e => decide (e.addr = a)).isEmpty = false := by
    obtain ⟨e, he, ha⟩ := h
    rw [List.isEmpty_eq_false_iff_exists_mem]
    exact ⟨e, List.mem_filter.mpr ⟨he, decide_eq_true ha⟩⟩
  unfold cancelQueued
  simp only [hne, Bool.false_eq_true, if_false]
  rfl

theorem cancelQueued_plain {a : Nat} {s : State} (h : ∃ e ∈ s.ins.entries, e.addr = a) :
    cancelQueued .plain a s = { s with ins := dequeued a s } := by
  rw [cancelQueued_some .plain h, List.foldl_fixed' (fun _ => rfl)]
  rfl

/-- R65: the final verdicts among the cancelled writes of word 15 clear the slot's unread mark; nothing else changes. -/
theorem cancelVerdicts_eq (k : Nat) (l : List QEntry) : ∀ {s : State}, canonical CapSlot.clear s.cap.slots = true →
    ∃ slots, l.foldl (cancelNotice (.capture k 15)) s = { s with cap := { s.cap with slots := slots } } ∧
      canonical CapSlot.clear slots = true ∧
      getD CapSlot.clear slots k =
        { s.capSlot k with unread := (s.capSlot k).unread && l.all fun e => !isFinalVerdict e.data } ∧
      ∀ j, j ≠ k → getD CapSlot.clear slots j = s.capSlot j := by
  induction l with
  | nil => exact @fun s h => ⟨s.cap.slots, rfl, h, by simp [State.capSlot], fun j _ => rfl⟩
  | cons e l ih =>
    intro s h
    obtain ⟨slots₁, hone, hcan₁, hk₁, hj₁⟩ :
        ∃ slots, cancelNotice (.capture k 15) s e = { s with cap := { s.cap with slots := slots } } ∧
          canonical CapSlot.clear slots = true ∧
          getD CapSlot.clear slots k =
            { s.capSlot k with unread := (s.capSlot k).unread && !isFinalVerdict e.data } ∧
          ∀ j, j ≠ k → getD CapSlot.clear slots j = s.capSlot j := by
      show ∃ slots, cancelVerdict k e.data s = _ ∧ _
      unfold cancelVerdict
      cases hv : isFinalVerdict e.data with
      | true =>
        refine ⟨_, rfl, canonical_setD _ _ _ _ h, ?_, fun j hj => getD_setD_other _ _ _ hj⟩
        rw [getD_setD_same _ _ _ _ h]
        simp
      | false => exact ⟨s.cap.slots, rfl, h, by simp [State.capSlot], fun j _ => rfl⟩
    obtain ⟨slots, hfold, hcan, hk, hj⟩ := ih (s := { s with cap := { s.cap with slots := slots₁ } }) hcan₁
    refine ⟨slots, ?_, hcan, ?_, fun j hne => (hj j hne).trans (hj₁ j hne)⟩
    · rw [List.foldl_cons, hone, hfold]
    · have hmid : ({ s with cap := { s.cap with slots := slots₁ } } : State).capSlot k = getD CapSlot.clear slots₁ k := rfl
      rw [hk, hmid, hk₁]
      simp [Bool.and_assoc]

/-- R14, R65: the capture slots `slots` and the queue `ins` after a write of word 15 of slot `k`, at address `a`, has removed
the queued writes of its word. -/
structure VerdictsCancelled (k a : Nat) (s : State) (slots : List (Nat × CapSlot)) (ins : Inserts) : Prop where
  form : canonical CapSlot.clear slots = true
  slot : getD CapSlot.clear slots k =
    { s.capSlot k with
      unread := (s.capSlot k).unread &&
        s.ins.entries.all fun e => !(decide (e.addr = a) && isFinalVerdict e.data) }
  others : ∀ j, j ≠ k → getD CapSlot.clear slots j = s.capSlot j
  removed : (∃ e ∈ s.ins.entries, e.addr = a) → ins = dequeued a s
  kept : NotQueued s a → ins = s.ins

/-- The state with capture slots `slots` and queue `ins`. -/
def withVerdicts (slots : List (Nat × CapSlot)) (ins : Inserts) (s : State) : State :=
  { s with cap := { s.cap with slots := slots }, ins := ins }

theorem cancelQueued_verdict (k a : Nat) {s : State} (h : canonical CapSlot.clear s.cap.slots = true) :
    ∃ slots ins, VerdictsCancelled k a s slots ins ∧ cancelQueued (.capture k 15) a s = withVerdicts slots ins s := by
  by_cases hq : ∃ e ∈ s.ins.entries, e.addr = a
  · obtain ⟨slots, hfold, hcan, hk, hj⟩ :=
      cancelVerdicts_eq k (s.ins.entries.filter fun e => decide (e.addr = a)) (s := unqueued a s) h
    refine ⟨slots, dequeued a s, ⟨hcan, ?_, hj, fun _ => rfl, fun hn => ?_⟩, ?_⟩
    · rw [hk, List.all_filter]
      simp only [Bool.not_and]
      rfl
    · obtain ⟨e, he, ha⟩ := hq
      exact absurd ha (hn e he)
    · rw [cancelQueued_some _ hq, hfold]
      rfl
  · have hn : NotQueued s a := fun e he ha => hq ⟨e, he, ha⟩
    refine ⟨s.cap.slots, s.ins, ⟨h, ?_, fun j _ => rfl, fun hex => absurd hex hq, fun _ => rfl⟩, cancelQueued_none hn⟩
    have hall : (s.ins.entries.all fun e => !(decide (e.addr = a) && isFinalVerdict e.data)) = true := by
      rw [List.all_eq_true]
      intro e he
      simp [hn e he]
    rw [hall, Bool.and_true]
    rfl

/-- What the queue gives up leaves the armed marks, so also whether the write is a commit. -/
theorem isCaptureCommit_withVerdicts {k a : Nat} {s : State} {slots : List (Nat × CapSlot)} {ins : Inserts}
    (h : VerdictsCancelled k a s slots ins) (be : BitVec 4) :
    isCaptureCommit (withVerdicts slots ins s) (.capture k 15) be = isCaptureCommit s (.capture k 15) be := by
  have hslot : (withVerdicts slots ins s).capSlot k = getD CapSlot.clear slots k := rfl
  rw [isCaptureCommit_capture, isCaptureCommit_capture, hslot, h.slot]

/-! ### The READY that a write of TX word 7 removes (R100) -/

theorem txState_setTx_same {s : State} (k : Nat) (v : TxState) (h : canonical TxState.free s.poll.tx = true) :
    (setTx k v s).txState k = v :=
  getD_setD_same _ _ _ _ h

theorem txState_setTx_other {s : State} {k j : Nat} (v : TxState) (hj : j ≠ k) :
    (setTx k v s).txState j = s.txState j :=
  getD_setD_other _ _ _ hj

/-- R100: the entry of a withdrawn frame. -/
def requeued (e : PollEntry) (y : PollEntry) : PollEntry :=
  if y.index = e.index then { y with sub := .queued, path := none } else y

theorem withdrawFrame_eq (k : Nat) (s : State) :
    withdrawFrame k s =
      { s with
        poll :=
          { s.poll with
            tx := setD .free s.poll.tx k .free
            list :=
              match inRingAt s k with
              | some e => s.poll.list.map (requeued e)
              | none => s.poll.list } } := by
  unfold withdrawFrame
  dsimp only
  cases inRingAt s k <;> rfl

/-- A report on a slot that is free has no effect (R98). -/
theorem takeReport_free {k : Nat} (v : Word) {s : State} (h : s.txState k = .free) : takeReport k v s = s :=
  if_pos h

theorem passWrite_tx (k a : Nat) (w : BusWord) (be : BitVec 4) (s : State) :
    passWrite (.tx k 7) a w be s =
      if be = allLanes then takeReport k w.data (storeWrite a w be s) else storeWrite a w be s := by
  unfold passWrite
  simp

theorem passWrite_tx_free {k a : Nat} (w : BusWord) (be : BitVec 4) {s : State} (h : s.txState k = .free) :
    passWrite (.tx k 7) a w be s = storeWrite a w be s := by
  rw [passWrite_tx, takeReport_free w.data (s := storeWrite a w be s) h, ite_self]

/-! ### The address of a word -/

/-- An aligned address below 2^32 is the address of its access. -/
theorem accessAddr_ofNat {a : Nat} (h4 : 4 ∣ a) (h : a < 2 ^ 32) : accessAddr (BitVec.ofNat 32 a) = a := by
  rw [accessAddr, BitVec.toNat_ofNat, Nat.mod_eq_of_lt h, Nat.div_mul_cancel h4]

/-! ### Plain accesses -/

/-- R3 to R7: the windows whose writes pass to the store alone. -/
theorem exec_write_stored {addr : Word} {w : BusWord} {be : BitVec 4} {win : Window} {s : State} (hf : BusFree s)
    (hw : windowOf s.path.areaSel (accessAddr addr) = win) (hq : NotQueued s (accessAddr addr))
    (h : win = .plain ∨ ((∃ n, win = .image n) ∧ s.route.state ≠ .loading) ∨
      ((∃ k n, win = .record k n) ∧ blockReason s win = none) ∨ ((∃ k, win = .tx k 7) ∧ be ≠ allLanes)) :
    exec (.upstreamWrite addr w be) s = .next (finish s (written (accessAddr addr) w be s)) := by
  rcases h with rfl | ⟨⟨n, rfl⟩, hst⟩ | ⟨⟨k, n, rfl⟩, hb⟩ | ⟨⟨k, rfl⟩, hbe⟩
  · rw [exec_write_passes hf hw rfl hq rfl]
    rfl
  · rw [exec_write_passes hf hw (if_neg hst) hq rfl]
    rfl
  · rw [exec_write_passes hf hw hb hq rfl]
    rfl
  · rw [exec_write_passes hf hw (blockReason_tx s k 7) hq rfl, passWrite_tx, if_neg hbe]
    rfl

theorem exec_write_command {addr : Word} {w : BusWord} {be : BitVec 4} {n : Nat} {s : State} (hf : BusFree s)
    (hw : windowOf s.path.areaSel (accessAddr addr) = .command n) (hq : NotQueued s (accessAddr addr))
    (hn : n ≠ 0 ∨ be ≠ allLanes) :
    exec (.upstreamWrite addr w be) s = .next (finish s (shadowed n (accessAddr addr) w be s)) := by
  rw [exec_write_passes hf hw rfl hq rfl, passWrite_command hw hn]

theorem exec_write_position {addr : Word} {w : BusWord} {be : BitVec 4} {n : Nat} {s : State} (hf : BusFree s)
    (hw : windowOf s.path.areaSel (accessAddr addr) = .position n) (hq : NotQueued s (accessAddr addr))
    (hn : n ≠ 3 ∨ be ≠ allLanes) :
    exec (.upstreamWrite addr w be) s = .next (finish s (shadowed (24 + n) (accessAddr addr) w be s)) := by
  rw [exec_write_passes hf hw rfl hq rfl, passWrite_position hw hn]

theorem exec_write_capture {addr : Word} {w : BusWord} {be : BitVec 4} {k n : Nat} {s : State} (hf : BusFree s)
    (hw : windowOf s.path.areaSel (accessAddr addr) = .capture k n) (hq : NotQueued s (accessAddr addr)) (hn : n ≠ 0)
    (hc : isCaptureCommit s (.capture k n) be = false) :
    exec (.upstreamWrite addr w be) s = .next (finish s (shadowed (4096 + 16 * k + n) (accessAddr addr) w be s)) := by
  rw [exec_write_passes hf hw rfl hq (by rw [hc]; rfl), passWrite_capture (s := unsnapped s) hc hn,
    passShadowed_eq w be (shadowKey_of_capture hw)]

/-- R14, R65: a write of word 15 that is no commit, with what the queue has of the word removed. -/
theorem exec_write_verdict {addr : Word} {k : Nat} (w : BusWord) {be : BitVec 4} {s : State} (hf : BusFree s)
    (hw : windowOf s.path.areaSel (accessAddr addr) = .capture k 15)
    (hcan : canonical CapSlot.clear s.cap.slots = true) (hc : isCaptureCommit s (.capture k 15) be = false) :
    ∃ slots ins, VerdictsCancelled k (accessAddr addr) s slots ins ∧
      exec (.upstreamWrite addr w be) s =
        .next (finish s (withVerdicts slots ins (shadowed (4096 + 16 * k + 15) (accessAddr addr) w be s))) := by
  obtain ⟨slots, ins, hv, hcancel⟩ := cancelQueued_verdict k (accessAddr addr) (s := unsnapped s) hcan
  refine ⟨slots, ins, ⟨hv.form, hv.slot, hv.others, hv.removed, hv.kept⟩, ?_⟩
  have hc' : isCaptureCommit (withVerdicts slots ins (unsnapped s)) (.capture k 15) be = false :=
    (isCaptureCommit_withVerdicts hv be).trans hc
  have hkey : shadowKey (withVerdicts slots ins s).path.areaSel (accessAddr addr) = 4096 + 16 * k + 15 :=
    shadowKey_of_capture hw
  rw [exec_upstreamWrite_in w be hf hw, takeWriteIn_unblocked rfl (by rw [hc]; rfl), hcancel,
    passWrite_capture hc' (by decide)]
  exact congrArg (fun t => Host.Outcome.next (finish s t)) (passShadowed_eq w be hkey)

/-- R100: a write of TX word 7 whose one queued write is a READY withdraws the frame, and the slot is free before the write
itself acts. -/
theorem exec_write_ready {addr : Word} {k : Nat} (w : BusWord) {be : BitVec 4} {e : QEntry} {s : State} (hf : BusFree s)
    (hw : windowOf s.path.areaSel (accessAddr addr) = .tx k 7)
    (hgone : s.ins.entries.filter (fun x => decide (x.addr = accessAddr addr)) = [e]) (hready : e.data = Config.ready)
    (hcan : canonical TxState.free s.poll.tx = true) :
    exec (.upstreamWrite addr w be) s =
      .next (finish s (withdrawFrame k
        { written (accessAddr addr) w be s with ins := dequeued (accessAddr addr) s })) := by
  have hq : ∃ x ∈ s.ins.entries, x.addr = accessAddr addr := by
    have hmem : e ∈ s.ins.entries.filter (fun x => decide (x.addr = accessAddr addr)) := by simp [hgone]
    exact ⟨e, (List.mem_filter.mp hmem).1, of_decide_eq_true (List.mem_filter.mp hmem).2⟩
  have hcancel : cancelQueued (.tx k 7) (accessAddr addr) (unsnapped s) =
      withdrawFrame k (unqueued (accessAddr addr) (unsnapped s)) := by
    rw [cancelQueued_some (s := unsnapped s) _ hq]
    show List.foldl _ _ (s.ins.entries.filter _) = _
    rw [hgone, List.foldl_cons, List.foldl_nil]
    exact if_pos hready
  have hfree : (withdrawFrame k (unqueued (accessAddr addr) (unsnapped s))).txState k = .free := by
    rw [withdrawFrame_eq]
    exact getD_setD_same TxState.free s.poll.tx k .free hcan
  rw [exec_upstreamWrite_in w be hf hw, takeWriteIn_unblocked (blockReason_tx s k 7) rfl, hcancel,
    passWrite_tx_free w be hfree, withdrawFrame_eq, withdrawFrame_eq]
  rfl

/-- Settles O17: in each window the write passes by `exec_write_…`; a read is its answer; the queued writes of the word leave
first, and what their producers' notices do is in `exec_write_verdict` and `exec_write_ready`. -/
theorem plainAccessesPass : Obligations.PlainAccessesPass := by
  refine ⟨fun addr w be win s hf hw hq => ⟨?_, ?_, ?_, ?_⟩, fun old new be i hi => extract_mergeBytes old new be hi,
    fun addr be d win w s hf hw hs hc hr ha => ?_, fun addr w be s hf hq hw => ?_,
    fun addr k a w be s hf ha hadr hq hcan harm => ?_, fun addr k a w be e s hf ha hadr hgone hready hcan => ?_⟩
  · exact exec_write_stored hf hw.symm hq
  · rintro n rfl hn
    exact exec_write_command hf hw.symm hq hn
  · rintro n rfl hn
    exact exec_write_position hf hw.symm hq hn
  · rintro k n rfl hn hbe
    exact exec_write_capture hf hw.symm hq hn (not_captureCommit hbe)
  · rw [exec_upstreamRead_in be d hf hw.symm, takeReadIn_answers hs ha, readNotice_none _ _ hc hr]
  · rw [exec_upstreamWrite_in w be hf hw, takeWriteIn_unblocked rfl rfl, cancelQueued_plain (s := unsnapped s) hq]
    rfl
  · have hw : windowOf s.path.areaSel (accessAddr addr) = .capture k.toNat 15 := by
      rw [hadr, ha]
      exact windowOf_capture _ (by omega) (by decide)
    have hnc : isCaptureCommit s (.capture k.toNat 15) be = false := by
      rw [isCaptureCommit_capture]
      rcases harm with h | h <;> simp [h]
    obtain ⟨slots, ins, hv, hrun⟩ := exec_write_verdict w hf hw hcan hnc
    rw [hadr] at hv hrun
    exact ⟨_, hrun, hv.removed hq, rfl, rfl, hv.slot, hv.others, rfl, rfl, rfl, rfl, rfl, rfl, rfl⟩
  · have hw : windowOf s.path.areaSel (accessAddr addr) = .tx k.toNat 7 := by
      rw [hadr, ha]
      exact windowOf_tx _ (by omega) (by decide)
    rw [← hadr] at hgone
    have hrun := exec_write_ready w (be := be) hf hw hgone hready hcan
    rw [hadr, withdrawFrame_eq] at hrun
    refine ⟨_, hrun, rfl, rfl, getD_setD_same TxState.free s.poll.tx k.toNat .free hcan,
      fun j hj => getD_setD_other TxState.free s.poll.tx .free hj, fun x hx => ?_,
      fun hx => ?_, rfl, rfl, rfl, rfl, rfl⟩
    · have hx' : inRingAt { written a w be s with ins := dequeued a s } k.toNat = some x := hx
      rw [hx']
      rfl
    · have hx' : inRingAt { written a w be s with ins := dequeued a s } k.toNat = none := hx
      rw [hx']
      rfl

end Sys2Proof.Machine
end


section
/-! The Status Page, the position fix, and the capture slots' accesses (R21, R22, R57, R60 to R65, R82, R83). -/
namespace Sys2Proof.Machine

/-! ### The addresses of the part's windows are addresses of accesses -/

theorem accessAddr_part (sel : BitVec 3) {off : Nat} (h4 : 4 ∣ off) (h : off < 0x200000) :
    accessAddr (BitVec.ofNat 32 (partBase sel + off)) = partBase sel + off := by
  have hsel : sel.toNat < 8 := sel.isLt
  have hb : partBase sel = sel.toNat * 0x200000 := rfl
  exact accessAddr_ofNat (by omega) (by omega)

theorem accessAddr_capture (sel : BitVec 3) {k w : Nat} (hk : k < 256) (hw : w < 16) :
    accessAddr (BitVec.ofNat 32 (captureAddr sel k w)) = captureAddr sel k w := by
  unfold captureAddr
  rw [Nat.add_assoc, Nat.add_assoc]
  exact accessAddr_part sel (by omega) (by omega)

theorem accessAddr_tx (sel : BitVec 3) {k w : Nat} (hk : k < 32) (hw : w < 8) :
    accessAddr (BitVec.ofNat 32 (txAddr sel k w)) = txAddr sel k w := by
  unfold txAddr
  rw [Nat.add_assoc, Nat.add_assoc]
  exact accessAddr_part sel (by omega) (by omega)

/-! ### The Status Page (R21, R22, chapter 12.10) -/

theorem num_routeShown (s : State) (n : Nat) : num (if s.routeShown then n else 0) 0 = shownCount s n := by
  unfold shownCount
  by_cases h : s.route.state = .opened ∨ s.route.state = .closing
  · rw [if_pos h, if_pos ((routeShown_iff s).mpr h), num_zero]
  · rw [if_neg h, if_neg (fun hs => h ((routeShown_iff s).mp hs)), num_zero]
    rfl

/-- Chapter 12.10: a status word, row by row of the table. -/
theorem statusWords_eq (s : State) : (List.range 32).map (statusWord s) = statusTable s := by
  have hflags : statusWord s 0 = flag (decide (s.sm.scan = .done)) 0 |||
      ((match s.route.state with
        | .noRoute => 0#32
        | .loading => 1#32
        | .opened => 2#32
        | .closing => 3#32 : Word) <<< 8) |||
      flag (s.flt.storeError || s.flt.clockLost) 16 ||| flag s.cmd.inFlight 17 := by
    unfold statusWord
    cases s.route.state <;> rfl
  have hseg : statusWord s 2 =
      match s.route.activeSeg with
      | none => 0xFFFF#32
      | some g => BitVec.ofNat 32 g := by
    unfold statusWord
    cases s.route.activeSeg with
    | none => rfl
    | some g => exact num_zero g
  have hsub : State.inFlightCount s = s.poll.list.countP fun e => match e.sub with
      | .queued => false
      | .inRing _ => true
      | .listening _ => true
      | .holdoff _ => false := by
    refine List.countP_congr fun e _ => ?_
    cases e.sub <;> rfl
  have hbatch : statusWord s 15 = s.up.lastId.setWidth 32 |||
      ((match (s.up.batch.map fun b => b.state : Option BatchState) with
        | none => 0#32
        | some .building => 1#32
        | some .opened => 2#32
        | some .fetched => 3#32 : Word) <<< 16) := by
    show place s.up.lastId 0 ||| num s.batchCode 16 = _
    rw [place_zero]
    unfold State.batchCode
    cases s.up.batch with
    | none => rfl
    | some b =>
      obtain ⟨st, _, _, _, _, _, _, _⟩ := b
      cases st <;> rfl
  have hreason : statusWord s 25 =
      match s.path.blockedReason with
      | .none => 0#32
      | .partWord => 1#32
      | .recordBody => 2#32
      | .slotInBatch => 3#32
      | .slotNotStored => 4#32
      | .slotLocked => 5#32
      | .imageLoading => 6#32 := by
    unfold statusWord
    cases s.path.blockedReason <;> rfl
  have hcount {a b : List Word} {x y : Word} (h : x = y) (ht : a = b) : x :: a = y :: b := by rw [h, ht]
  unfold statusTable
  exact hcount hflags <| hcount (place_zero _) <| hcount hseg <| hcount rfl <| hcount (num_routeShown s _) <|
    hcount (num_routeShown s _) <| hcount (num_routeShown s _) <| hcount (num_zero _) <|
    hcount ((num_zero _).trans (congrArg _ hsub)) <| hcount (num_zero _) <| hcount (num_zero _) <|
    hcount (num_zero _) <| hcount (num_zero _) <| hcount (num_zero _) <| hcount (place_zero _) <| hcount hbatch <|
    hcount (place_zero _) <| hcount (place_zero _) <| hcount (place_zero _) <| hcount rfl <| hcount rfl <|
    hcount (place_zero _) <| hcount (place_zero _) <| hcount (place_zero _) <| hcount rfl <| hcount hreason <|
    hcount (place_zero _) <| hcount (num_zero _) rfl

theorem takeReadIn_status {n a : Nat} (d : Disturb) (s : State) (hn : n ≠ 0) :
    takeReadIn (.status n) a d s = readStatus n a d s := by
  unfold takeReadIn
  split
  · rename_i h
    exact absurd (Window.status.inj h) hn
  · rename_i h
    rw [Window.status.inj h]
  · rename_i h
    exact absurd rfl (h n)

theorem serve_queued {s : State} {a : Nat} {e : QEntry} (d : Disturb) (h : s.ins.newest a = some e) :
    serve s a d = ⟨e.data, evenParity e.data⟩ := by
  simp only [serve, h]

theorem serve_stored {s : State} {a : Nat} (d : Disturb) (h : s.ins.newest a = none) : serve s a d = s.store.answer a d := by
  simp only [serve, h]

theorem readStatus_latched {n a : Nat} {latch : List Word} (d : Disturb) {s : State} (h : s.path.snapshot = some latch) :
    readStatus n a d s =
      answerOwn a (latch.getD n 0)
        { s with path := { s.path with snapshot := if n = 31 then none else some latch } } := by
  simp only [readStatus, h]

theorem readStatus_unlatched {n a : Nat} (d : Disturb) {s : State} (h : s.path.snapshot = none) :
    readStatus n a d s = answerRead a (serve s a d) s := by
  simp only [readStatus, h]

/-- Settles O21: word 0 is answered by the snapshot it takes; the other words by the snapshot, the queue or the store. -/
theorem statusReadsAreCoherent : Obligations.StatusReadsAreCoherent := by
  refine ⟨statusWords_eq, fun be s hf => ?_, fun n be d s hf hn => ?_⟩
  · have hrun : exec (.statusSnapshotRead be) s =
        .next (finish s (takeRead (statusAddr s.path.areaSel 0) ⟨0, 0⟩ s)) := upstream_taken hf
    rw [hrun, takeRead_in (windowOf_status _ (by decide))]
    rfl
  · have hrun : exec (.statusWordRead n be d) s =
        .next (finish s (takeRead (statusAddr s.path.areaSel n.toNat) d s)) := upstream_taken hf
    have hn' : n.toNat ≠ 0 := fun h => hn (BitVec.eq_of_toNat_eq h)
    rw [hrun, takeRead_in (windowOf_status _ n.isLt), takeReadIn_status d s hn']
    refine ⟨fun latch hl => ?_, fun e hsn he => ?_, fun hsn he => ?_⟩
    · have h31 : (n.toNat = 31) ↔ n = 31 := ⟨fun h => BitVec.eq_of_toNat_eq h, fun h => h ▸ rfl⟩
      rw [readStatus_latched d hl]
      simp only [h31]
      rfl
    · rw [readStatus_unlatched d hsn, serve_queued d he]
      rfl
    · rw [readStatus_unlatched d hsn, serve_stored d he]
      rfl

/-! ### The position fix (R57) -/

theorem passWrite_positionCommit (a : Nat) (w : BusWord) (s : State) :
    passWrite (.position 3) a w allLanes s = commitPosition (passShadowed a w allLanes s) := by
  unfold passWrite
  exact if_pos ⟨rfl, rfl⟩

theorem exec_positionCommit {w : BusWord} {s : State} (hf : BusFree s) (hq : NotQueued s (positionAddr s.path.areaSel 3)) :
    exec (.positionCommit w) s =
      .next (finish s (commitPosition (shadowed 27 (positionAddr s.path.areaSel 3) w allLanes s))) := by
  have hw : windowOf s.path.areaSel (positionAddr s.path.areaSel 3) = .position 3 := windowOf_position _ (by decide)
  have hrun : exec (.positionCommit w) s =
      .next (finish s (takeWrite (positionAddr s.path.areaSel 3) w allLanes s)) := upstream_taken hf
  rw [hrun, takeWrite_passes hw rfl hq rfl, passSnapshot_eq s rfl, passWrite_positionCommit,
    passShadowed_eq w allLanes (shadowKey_of_position hw)]

/-- R57: the fix that the shadow of the Position Slot spells. -/
def fixOf (s : State) : PosFix :=
  ⟨s.shadowWord 24, s.shadowWord 25, s.shadowWord 26, bits (s.shadowWord 27) 0 8, bits (s.shadowWord 27) 16 16⟩

theorem commitPosition_repeats {f : PosFix} {s : State} (hf : s.cap.fix = some f) (h : f.seq = (fixOf s).seq) :
    commitPosition s = s := by
  have h' : f.seq = bits (s.shadowWord (positionKey 3)) 16 16 := h
  unfold commitPosition
  simp only [hf, h', decide_true, if_true]
  rw [← hf]

theorem commitPosition_takes {s : State} (h : ∀ f, s.cap.fix = some f → f.seq ≠ (fixOf s).seq) :
    commitPosition s = { s with cap := { s.cap with fix := some (fixOf s) } } := by
  unfold commitPosition
  cases hf : s.cap.fix with
  | none => rfl
  | some f =>
    have h' : ¬f.seq = bits (s.shadowWord (positionKey 3)) 16 16 := h f hf
    simp only [h', decide_false, Bool.false_eq_true, if_false]
    rfl

/-- Settles O40: the shadow has taken the committed word before the fix is read from it. -/
theorem positionCommitTakesTheFix : Obligations.PositionCommitTakesTheFix := by
  intro w s hf hq hcan u hu
  have hsh : shadowed 27 (positionAddr s.path.areaSel 3) w allLanes s = u := by
    rw [hu]
    simp only [shadowed, written, unsnapped, mergeBytes_all]
  have hfix : fixOf u = ⟨getD 0 s.path.shadow 24, getD 0 s.path.shadow 25, getD 0 s.path.shadow 26, bits w.data 0 8,
      bits w.data 16 16⟩ := by
    have h27 : u.shadowWord 27 = w.data := hu ▸ getD_setD_same _ _ _ _ hcan
    have hother : ∀ n, n ≠ 27 → u.shadowWord n = getD 0 s.path.shadow n := fun n hn => hu ▸ getD_setD_other _ _ _ hn
    rw [fixOf, h27, hother 24 (by decide), hother 25 (by decide), hother 26 (by decide)]
  have hcap : u.cap = s.cap := by rw [hu]
  rw [exec_positionCommit hf hq, hsh]
  refine ⟨fun f hsome hseq => ?_, fun hne => ?_⟩
  · rw [commitPosition_repeats (by rw [hcap, hsome]) (by rw [hfix]; exact hseq)]
  · rw [commitPosition_takes (by rw [hcap, hfix]; exact hne), hfix, hcap]

/-! ### Arming (R60, R61) -/

theorem overrunAt_iff (s : State) (k : Nat) :
    overrunAt s k = true ↔
      (s.capSlot k).unread = true ∨ ∃ b ∈ s.cap.judgeQ ++ s.cap.deferred, b.slot = k ∧ b.mark = true := by
  unfold overrunAt Burst.marks
  rw [Bool.or_assoc, ← List.any_append, Bool.or_eq_true, List.any_eq_true]
  simp only [Bool.and_eq_true, decide_eq_true_eq]

theorem armSlot_quiet {k : Nat} {s : State} (h : overrunAt s k = false) :
    armSlot k s = modCap k (fun c => ⟨true, c.unread, s.clk.ms, s.cap.fix, false⟩) s := by
  simp only [armSlot, h, Bool.false_eq_true, if_false]

theorem armSlot_overrun {k : Nat} {s : State} (h : overrunAt s k = true) :
    armSlot k s = modCap k (fun _ => ⟨true, false, s.clk.ms, s.cap.fix, true⟩) (takeOverrun k s) := by
  simp only [armSlot, h, if_true]

/-- An armed slot reads back whatever the form, since it is not clear. -/
theorem capSlot_modCap_armed {k : Nat} {f : CapSlot → CapSlot} (s : State) (h : (f (s.capSlot k)).armed = true) :
    (modCap k f s).capSlot k = f (s.capSlot k) :=
  getD_setD_same_of_ne _ _ _ fun hc => by rw [hc] at h; exact nomatch h

theorem capSlot_armSlot_same (k : Nat) (s : State) :
    (armSlot k s).capSlot k =
      ⟨true, !overrunAt s k && (s.capSlot k).unread, s.clk.ms, s.cap.fix, overrunAt s k⟩ := by
  cases h : overrunAt s k with
  | false =>
    rw [armSlot_quiet h]
    exact capSlot_modCap_armed (f := fun c => ⟨true, c.unread, s.clk.ms, s.cap.fix, false⟩) s rfl
  | true =>
    rw [armSlot_overrun h]
    exact capSlot_modCap_armed (f := fun _ => ⟨true, false, s.clk.ms, s.cap.fix, true⟩) (takeOverrun k s) rfl

theorem capSlot_armSlot_other {k j : Nat} (s : State) (hj : j ≠ k) : (armSlot k s).capSlot j = s.capSlot j := by
  cases h : overrunAt s k with
  | false =>
    rw [armSlot_quiet h]
    exact capSlot_modCap_other _ s hj
  | true =>
    rw [armSlot_overrun h]
    exact capSlot_modCap_other _ (takeOverrun k s) hj

theorem passWrite_arm {k a : Nat} (w : BusWord) (be : BitVec 4) (s : State) :
    passWrite (.capture k 0) a w be s = armSlot k (passShadowed a w be s) := by
  unfold passWrite
  dsimp only
  rw [not_captureCommit (.inl (by decide)), if_neg Bool.false_ne_true, if_pos rfl]

theorem exec_captureArm {k : BitVec 8} {w : BusWord} {be : BitVec 4} {s : State} (hf : BusFree s)
    (hq : NotQueued s (captureAddr s.path.areaSel k.toNat 0)) :
    exec (.captureArm k w be) s =
      .next (finish s (armSlot k.toNat
        (shadowed (4096 + 16 * k.toNat) (captureAddr s.path.areaSel k.toNat 0) w be s))) := by
  have hw : windowOf s.path.areaSel (captureAddr s.path.areaSel k.toNat 0) = .capture k.toNat 0 :=
    windowOf_capture _ (by omega) (by decide)
  have hrun : exec (.captureArm k w be) s =
      .next (finish s (takeWrite (captureAddr s.path.areaSel k.toNat 0) w be s)) := upstream_taken hf
  rw [hrun, takeWrite_passes hw rfl hq (by rw [not_captureCommit (.inl (by decide))]; rfl), passSnapshot_eq s rfl,
    passWrite_arm, passShadowed_eq w be (shadowKey_of_capture hw), Nat.add_zero]

theorem countsRouteOverruns_eq (r : RouteState) (a b : Half) :
    (if countsRouteOverruns r then a else b) = if r = .noRoute then b else a := by
  cases r <;> rfl

/-- R60, R61: what arming slot `k` changes besides the capture slots. -/
theorem armSlot_rest (k : Nat) (s : State) :
    ∃ slots, armSlot k s =
      if overrunAt s k then { takeOverrun k s with cap := { (takeOverrun k s).cap with slots := slots } }
      else { s with cap := { s.cap with slots := slots } } := by
  cases h : overrunAt s k with
  | false => exact ⟨_, armSlot_quiet h⟩
  | true => exact ⟨_, armSlot_overrun h⟩

/-- Settles O41: the write passes and is shadowed before the slot is armed, and arming with an overrun is `takeOverrun` first. -/
theorem wordZeroArmsTheSlot : Obligations.WordZeroArmsTheSlot := by
  refine ⟨fun k w be s hf hq => ?_, overrunAt_iff⟩
  have hsame := capSlot_armSlot_same k.toNat
    (shadowed (4096 + 16 * k.toNat) (captureAddr s.path.areaSel k.toNat 0) w be s)
  have hother (j : Nat) (hj : j ≠ k.toNat) := capSlot_armSlot_other
    (shadowed (4096 + 16 * k.toNat) (captureAddr s.path.areaSel k.toNat 0) w be s) hj
  obtain ⟨slots, hrest⟩ := armSlot_rest k.toNat
    (shadowed (4096 + 16 * k.toNat) (captureAddr s.path.areaSel k.toNat 0) w be s)
  have hov : overrunAt (shadowed (4096 + 16 * k.toNat) (captureAddr s.path.areaSel k.toNat 0) w be s) k.toNat =
      overrunAt s k.toNat := rfl
  rw [hov] at hsame hrest
  rw [exec_captureArm hf hq]
  rw [hrest] at hsame hother ⊢
  cases h : overrunAt s k.toNat with
  | false =>
    rw [h] at hsame hother
    exact ⟨_, rfl, rfl, rfl, hsame, hother, rfl, rfl, rfl, rfl, rfl, rfl, rfl, rfl, rfl,
      fun _ => ⟨rfl, rfl, rfl, rfl, rfl⟩, fun hne => absurd hne Bool.false_ne_true⟩
  | true =>
    rw [h] at hsame hother
    exact ⟨_, rfl, rfl, rfl, hsame, hother, rfl, rfl, rfl, rfl, rfl, rfl, rfl, rfl, rfl,
      fun hne => absurd hne.symm Bool.false_ne_true, fun _ => ⟨rfl, rfl, countsRouteOverruns_eq _ _ _, rfl, rfl⟩⟩

/-! ### Completion (R62, R63) -/

theorem burstFlags_eq (o : Bool) : burstFlags o = flag o 8 := by cases o <;> rfl

theorem pendingWord_eq (s : State) (k : Nat) : pendingWord s k = 0xFFFF0001#32 ||| flag (s.capSlot k).overrun 8 := by
  unfold pendingWord
  cases (s.capSlot k).overrun <;> decide

theorem passWrite_captureCommit {k a : Nat} {w : BusWord} {be : BitVec 4} {s : State}
    (hc : isCaptureCommit s (.capture k 15) be = true) :
    passWrite (.capture k 15) a w be s = takeCaptureCommit k a w s := by
  unfold passWrite
  dsimp only
  rw [hc, if_pos rfl]

theorem exec_captureCommit_eq (k : BitVec 8) (w : BusWord) (s : State) :
    exec (.captureCommit k w) s =
      exec (.upstreamWrite (BitVec.ofNat 32 (captureAddr s.path.areaSel k.toNat 15)) w allLanes) s := by
  have ha := accessAddr_capture s.path.areaSel (k := k.toNat) (w := 15) (by omega) (by decide)
  exact congrArg (fun a => upstream (.write a w allLanes) s) ha.symm

theorem exec_captureCommit_in {k : BitVec 8} {w : BusWord} {a : Nat} {s : State} (hf : BusFree s)
    (ha : a = captureAddr s.path.areaSel k.toNat 15) :
    exec (.captureCommit k w) s = .next (finish s (takeWriteIn (.capture k.toNat 15) a w allLanes s)) := by
  have hrun : exec (.captureCommit k w) s =
      .next (finish s (takeWrite (captureAddr s.path.areaSel k.toNat 15) w allLanes s)) := upstream_taken hf
  rw [hrun, takeWrite_in (windowOf_capture _ (by omega) (by decide)), ha]

/-- R62: the shadow word `n` that the completed burst takes is the one before the commit. -/
theorem shadowWord_committed {k n : Nat} {w : Word} {s t : State}
    (h : t.path.shadow = setD 0 s.path.shadow (4096 + 16 * k + 15) w) (hn : n < 15) :
    t.shadowWord (captureKey k n) = getD 0 s.path.shadow (4096 + 16 * k + n) := by
  have hkey : captureKey k n = 4096 + 16 * k + n := rfl
  rw [State.shadowWord, h, hkey]
  exact getD_setD_other _ _ _ (by omega)

/-- R62: what the commit of armed slot `k` makes of a state. -/
theorem takeCaptureCommit_burst {k a : Nat} {w : BusWord} {s : State} (hkey : shadowKey s.path.areaSel a = 4096 + 16 * k + 15) :
    ∃ b : Burst, takeCaptureCommit k a w s =
        modCap k (fun c => { c with armed := false })
          { s with
            store := s.store.write a ⟨pendingWord s k, evenParity (pendingWord s k)⟩ allLanes
            path :=
              { s.path with
                shadow :=
                  setD 0 s.path.shadow (4096 + 16 * k + 15)
                    (mergeBytes (getD 0 s.path.shadow (4096 + 16 * k + 15)) w.data allLanes) }
            cap := { s.cap with judgeQ := s.cap.judgeQ ++ [b] } } ∧
      b.slot = k ∧ b.mark = true ∧
      b.words = (List.range 8).map (fun n => getD 0 s.path.shadow (4096 + 16 * k + n)) ∧
      b.word14 = getD 0 s.path.shadow (4096 + 16 * k + 14) ∧ b.stamp = (s.capSlot k).stamp ∧
      b.fix = (s.capSlot k).fix ∧ b.overrun = (s.capSlot k).overrun := by
  have hsh : (takeShadow a w.data allLanes { s with store := s.store.writeOwn a (pendingWord s k) }).path.shadow =
      setD 0 s.path.shadow (4096 + 16 * k + 15)
        (mergeBytes (getD 0 s.path.shadow (4096 + 16 * k + 15)) w.data allLanes) := by
    rw [← hkey]
    rfl
  refine ⟨completedBurst (takeShadow a w.data allLanes { s with store := s.store.writeOwn a (pendingWord s k) }) k, ?_, rfl,
    rfl, ?_, shadowWord_committed hsh (by decide), rfl, rfl, rfl⟩
  · rw [← hkey]
    rfl
  · refine List.map_congr_left fun n hn => shadowWord_committed hsh ?_
    have := List.mem_range.mp hn
    omega

theorem isCaptureCommit_armed {k : Nat} {s : State} (h : (s.capSlot k).armed = true) :
    isCaptureCommit s (.capture k 15) allLanes = true := by
  rw [isCaptureCommit_capture, h]
  rfl

/-- R63: a commit of an armed slot is held while the Judge Queue is full. -/
theorem takeWriteIn_commit_held {k a : Nat} {w : BusWord} {s : State} (harm : (s.capSlot k).armed = true)
    (hfull : 16 ≤ s.cap.judgeQ.length) :
    takeWriteIn (.capture k 15) a w allLanes s =
      { s with path := { s.path with held := some ⟨.write a w allLanes, .judgeQueue⟩ } } := by
  have hfull' : judgeFull s = true := decide_eq_true hfull
  have hb : blockReason s (.capture k 15) = none := rfl
  rw [takeWriteIn, hb]
  simp only [isCaptureCommit_armed harm, hfull', Bool.and_self, if_true]

/-- R62, R14: a commit of an armed slot with room in the Judge Queue, on what the queue's removals leave. -/
theorem takeWriteIn_commit {k a : Nat} {w : BusWord} {s : State} (harm : (s.capSlot k).armed = true)
    (hroom : s.cap.judgeQ.length < 16) (hcan : canonical CapSlot.clear s.cap.slots = true) :
    ∃ slots ins, VerdictsCancelled k a s slots ins ∧
      takeWriteIn (.capture k 15) a w allLanes s =
        takeCaptureCommit k a w (withVerdicts slots ins (unsnapped s)) := by
  have hfull : judgeFull s = false := decide_eq_false (Nat.not_le.mpr hroom)
  obtain ⟨slots, ins, hv, hcancel⟩ := cancelQueued_verdict k a (s := unsnapped s) hcan
  refine ⟨slots, ins, ⟨hv.form, hv.slot, hv.others, hv.removed, hv.kept⟩, ?_⟩
  have hb : blockReason s (.capture k 15) = none := rfl
  rw [takeWriteIn_unblocked hb (by rw [hfull, Bool.and_false]), hcancel,
    passWrite_captureCommit ((isCaptureCommit_withVerdicts hv allLanes).trans (isCaptureCommit_armed harm))]

/-- Settles O42: a commit of an armed slot is `takeWriteIn_commit` and `takeCaptureCommit_burst`, or is held; of another slot it
is a shadowed write. -/
theorem wordFifteenCompletesTheBurst : Obligations.WordFifteenCompletesTheBurst := by
  intro k w a pending s hf ha hp
  have hw : windowOf s.path.areaSel a = .capture k.toNat 15 := ha ▸ windowOf_capture _ (by omega) (by decide)
  have hkey : shadowKey s.path.areaSel a = 4096 + 16 * k.toNat + 15 := shadowKey_of_capture hw
  refine ⟨fun harm hroom hcan => ?_, fun harm hfull => ?_, fun harm hq => ?_, ?_⟩
  · obtain ⟨slots, ins, hv, htake⟩ := takeWriteIn_commit (w := w) (a := a) harm hroom hcan
    obtain ⟨b, hcommit, hbs, hbm, hbw, hb14, hbst, hbf, hbo⟩ :=
      takeCaptureCommit_burst (k := k.toNat) (w := w) (s := withVerdicts slots ins (unsnapped s)) hkey
    have hslot : (withVerdicts slots ins (unsnapped s)).capSlot k.toNat = getD CapSlot.clear slots k.toNat := rfl
    have hpend : pendingWord (withVerdicts slots ins (unsnapped s)) k.toNat = pending := by
      rw [pendingWord_eq, hslot, hv.slot, hp]
    rw [hslot, hv.slot] at hbst hbf hbo
    rw [hpend] at hcommit
    rw [exec_captureCommit_in hf ha, htake, hcommit]
    have hsame := capSlot_modCap_same k.toNat (fun c => { c with armed := false }) (s := withVerdicts slots ins s) hv.form
    rw [show (withVerdicts slots ins s).capSlot k.toNat = getD CapSlot.clear slots k.toNat from rfl, hv.slot] at hsame
    exact ⟨_, b, rfl, rfl, rfl, hsame, fun j hj => (getD_setD_other _ _ _ hj).trans (hv.others j hj), rfl, hbs, hbm, hbw,
      hb14, hbst, hbf, hbo, rfl, hv.removed, hv.kept, rfl, rfl, rfl⟩
  · rw [exec_captureCommit_in hf ha, takeWriteIn_commit_held harm hfull]
  · have hc : isCaptureCommit s (.capture k.toNat 15) allLanes = false := by
      rw [isCaptureCommit_capture, harm, Bool.and_false]
    have hb : blockReason s (.capture k.toNat 15) = none := rfl
    rw [exec_captureCommit_in hf ha, takeWriteIn_passes hb hq (by rw [hc]; rfl), passSnapshot_eq s rfl,
      passWrite_capture (k := k.toNat) (n := 15) (s := unsnapped s) hc (by decide), passShadowed_eq w allLanes hkey]
  · rw [ha]
    exact exec_captureCommit_eq k w s

/-! ### Reads that a unit listens to (R64, R173, R174) -/

theorem verdictRead_eq (k : Nat) (data : Word) (s : State) :
    verdictRead k data s = if isFinalVerdict data then modCap k (fun c => { c with unread := false }) s else s := rfl

/-- R64: the capture slots after a read of word 15 of slot `k` served with `data`. -/
theorem verdictRead_slots (k : Nat) (data : Word) {s : State} (h : canonical CapSlot.clear s.cap.slots = true) :
    ∃ slots, verdictRead k data s = { s with cap := { s.cap with slots := slots } } ∧
      getD CapSlot.clear slots k =
        { s.capSlot k with unread := (s.capSlot k).unread && !isFinalVerdict data } ∧
      ∀ j, j ≠ k → getD CapSlot.clear slots j = s.capSlot j := by
  rw [verdictRead_eq]
  cases isFinalVerdict data with
  | false => exact ⟨s.cap.slots, rfl, by rw [Bool.not_false, Bool.and_true]; rfl, fun j _ => rfl⟩
  | true =>
    refine ⟨_, rfl, ?_, fun j hj => getD_setD_other _ _ _ hj⟩
    rw [getD_setD_same _ _ _ _ h, Bool.not_true, Bool.and_false]

/-- Settles O43: the read is answered, and its listener clears the mark on a final verdict. -/
theorem verdictReadClearsTheUnreadMark : Obligations.VerdictReadClearsTheUnreadMark := by
  intro k be d w s hf ha hcan
  have hrun : exec (.captureVerdictRead k be d) s =
      .next (finish s (takeRead (captureAddr s.path.areaSel k.toNat 15) d s)) := upstream_taken hf
  obtain ⟨slots, hread, hk, hj⟩ :=
    verdictRead_slots k.toNat w.data (s := answered (captureAddr s.path.areaSel k.toNat 15) w s) hcan
  rw [hrun, takeRead_in (windowOf_capture _ (by omega) (by decide)),
    takeReadIn_answers (win := .capture k.toNat 15) (by simp) ha]
  refine ⟨_, congrArg (fun t => Host.Outcome.next (finish s t)) hread, rfl, rfl, hk, hj, rfl, rfl, rfl, rfl, rfl, rfl, rfl⟩

end Sys2Proof.Machine
end


section
/-! Fetch bits, and held accesses (R15, R16, R63, R173, R174). -/
namespace Sys2Proof.Machine

/-- The state with the writes `l` given behind those of its outbox. -/
def giving (l : List (Producer × QWrite)) (s : State) : State :=
  { s with ins := { s.ins with outbox := s.ins.outbox ++ l } }

theorem give_eq (p : Producer) (q : QWrite) (s : State) : give p q s = giving [(p, q)] s := rfl

theorem giving_giving (l l' : List (Producer × QWrite)) (s : State) : giving l' (giving l s) = giving (l ++ l') s := by
  simp only [giving, List.append_assoc]

theorem giving_areaSel (l : List (Producer × QWrite)) (s : State) : (giving l s).path.areaSel = s.path.areaSel := rfl

/-- R168: the four writes of a manifest header. -/
theorem giveManifest_eq (id : Half) (state count : Nat) (digest : Word) (s : State) :
    giveManifest id state count digest s = giving (manifestGiven s.path.areaSel id state count digest) s := by
  unfold giveManifest
  dsimp only
  rw [giveData_eq, giveData_eq, giveData_eq, giveData_eq, give_eq, give_eq, give_eq, give_eq, giving_giving, giving_giving,
    giving_giving, place_zero, num_zero]
  rfl

/-! ### Fetch bits (R173, R174) -/

theorem fetchRead_unlisted {k w : Nat} {s : State} (h : s.slotState k ≠ .inBatch) : fetchRead k w s = s := by
  unfold fetchRead
  cases s.up.batch with
  | none => rfl
  | some b => exact if_neg h

theorem markFetched_eq (k w : Nat) (items : List BatchItem) :
    markFetched k w items =
      items.map fun x => if x.slot = k then { x with mask := x.mask ||| (1#16 <<< w) } else x := rfl

theorem allFetched_iff (items : List BatchItem) : allFetched items = true ↔ ∀ x ∈ items, x.mask = 0xFFFF#16 := by
  simp [allFetched]

theorem fetchRead_marks {k w : Nat} {b : Batch} {s : State} (hk : s.slotState k = .inBatch) (hb : s.up.batch = some b)
    (h : b.state ≠ .opened ∨ ∃ x ∈ markFetched k w b.items, x.mask ≠ 0xFFFF#16) :
    fetchRead k w s = { s with up := { s.up with batch := some { b with items := markFetched k w b.items } } } := by
  have hnot : ¬(b.state = .opened ∧ allFetched (markFetched k w b.items) = true) := by
    rw [allFetched_iff]
    rintro ⟨ho, hall⟩
    obtain h | ⟨x, hx, hm⟩ := h
    · exact h ho
    · exact hm (hall x hx)
  rw [fetchRead, hb]
  exact (if_pos hk).trans (if_neg hnot)

theorem fetchRead_completes {k w : Nat} {b : Batch} {s : State} (hk : s.slotState k = .inBatch)
    (hb : s.up.batch = some b) (ho : b.state = .opened) (hall : ∀ x ∈ markFetched k w b.items, x.mask = 0xFFFF#16) :
    fetchRead k w s =
      giving (manifestGiven s.path.areaSel b.id 3 (markFetched k w b.items).length b.digest)
        { s with up := { s.up with batch := some { b with items := markFetched k w b.items, state := .fetched } } } := by
  rw [fetchRead, hb]
  refine (if_pos hk).trans ((if_pos ⟨ho, (allFetched_iff _).mpr hall⟩).trans ?_)
  rw [giveManifest_eq]
  rfl

/-- Settles O57: the read is answered, and its listener marks the word of a slot of the batch as fetched. -/
theorem readsSetFetchBits : Obligations.ReadsSetFetchBits := by
  intro k w be d answer s base hf ha hbase
  have hrun : exec (.readingStoreRead k w be d) s =
      .next (finish s (takeRead (recordAddr s.path.areaSel k.toNat w.toNat) d s)) := upstream_taken hf
  have hnotice : exec (.readingStoreRead k w be d) s = .next (finish s (fetchRead k.toNat w.toNat base)) := by
    rw [hrun, takeRead_in (windowOf_record _ k.isLt w.isLt),
      takeReadIn_answers (win := .record k.toNat w.toNat) (by simp) ha, hbase]
    rfl
  have hst : base.slotState k.toNat = s.slotState k.toNat := hbase ▸ rfl
  have hup : base.up = s.up := hbase ▸ rfl
  rw [hnotice]
  refine ⟨fun hk => ?_, fun b items hk hb hitems => ⟨fun h => ?_, fun ho hall => ?_⟩⟩
  · rw [fetchRead_unlisted (by rwa [hst])]
  · rw [← markFetched_eq] at hitems
    rw [hitems] at h
    rw [fetchRead_marks (by rwa [hst]) (by rwa [hup]) h, hup, hitems]
  · rw [← markFetched_eq] at hitems
    rw [hitems] at hall
    rw [fetchRead_completes (by rwa [hst]) (by rwa [hup]) ho hall, hup, hitems, hbase]
    rfl

/-! ### Held accesses (R15, R16, R63) -/

theorem heldDue_iff (s : State) :
    heldDue s = true ↔
      ∃ h, s.path.held = some h ∧ s.ins.throttle = false ∧ (h.reason = .throttle ∨ s.cap.judgeQ.length < 16) := by
  unfold heldDue
  cases hh : s.path.held with
  | none => simp
  | some h =>
    have hfull : judgeFull s = false ↔ s.cap.judgeQ.length < 16 := by
      rw [judgeFull, decide_eq_false_iff_not]
      exact Nat.not_le
    simp [hfull]

/-- An access that arrives under the throttle mark is held. -/
theorem upstream_held {a : Access} {s : State} (hr : Awake s) (hh : s.path.held = none) (ht : s.ins.throttle = true) :
    upstream a s = .next (finish s { s with path := { s.path with held := some ⟨a, .throttle⟩ } }) := by
  have hcan : s.path.held.isNone = true := by rw [hh]; rfl
  rw [upstream, event_taken hr hcan, arrive, if_pos ht]

/-- No Status Page word shows the held access, so the end of an event does not depend on it. -/
theorem finish_of_held (s t : State) (h : Option Held) :
    finish { s with path := { s.path with held := h } } t = finish s t := rfl

/-- R63: a held access is taken as it would have been had it arrived when its hold ended. -/
theorem event_takeHeld {can : Bool} {a : Access} {r : HoldReason} {s : State} (hr : Awake s) (hcan : can = true)
    (ht : s.ins.throttle = false) (hh : s.path.held = some ⟨a, r⟩) :
    event can takeHeld s = upstream a { s with path := { s.path with held := none } } := by
  have hfree : BusFree { s with path := { s.path with held := none } } := ⟨hr, rfl, ht⟩
  have htake : takeHeld s = takeAccess a { s with path := { s.path with held := none } } := by
    simp only [takeHeld, hh]
  rw [event_taken hr hcan, upstream_taken hfree, htake]
  exact (congrArg Host.Outcome.next (finish_of_held s _ none)).symm

theorem upstream_next (a : Access) (s : State) : ∃ t, upstream a s = .next t := event_next _ _ _

theorem heldFor_eq {s : State} {h : Held} {r : HoldReason} (hh : s.path.held = some h) (hr : h.reason = r) :
    heldFor r s = true := by
  simp only [heldFor, hh, hr, decide_true]

/-- While a held access is due an inserted read that needs the store does not complete. -/
theorem readReady_of_due {s : State} {a : Nat} (hd : heldDue s = true) (ha : nextRead s = some a)
    (hq : s.ins.newest a = none) : readReady s = false := by
  simp only [readReady, ha, hq, hd, Option.isSome_none, Bool.not_true, Bool.false_and, Bool.or_self]

/-- A read command before its turn changes nothing. -/
theorem exec_read_not_ready {s : State} (h : readReady s = false) (d : Disturb) :
    ∀ c ∈ [Instr.scanRead d, .scanRebuildRead d, .routeNumberRead d, .headerRead d, .entryRead d, .buildRead d],
      exec c s = .next s := by
  intro c hc
  simp only [List.mem_cons, List.not_mem_nil, or_false] at hc
  rcases hc with rfl | rfl | rfl | rfl | rfl | rfl
  all_goals
    refine event_not_taken ?_
    simp [h]

/-- Settles O20: a held access is taken by `event_takeHeld`, and while it is due neither a queued write nor an inserted read that
needs the store has its turn. -/
theorem heldAccessesAreTakenWhenTheHoldEnds : Obligations.HeldAccessesAreTakenWhenTheHoldEnds := by
  refine ⟨fun addr w be d s hr hh ht => ⟨upstream_held hr hh ht, upstream_held hr hh ht⟩,
    fun addr w be d s hr ht => ⟨fun hh => ?_, fun hh => ?_⟩, fun k w s hr ht hroom hh => ?_, heldDue_iff,
    fun s d hd => ⟨event_not_taken (issueReady_of_due hd), fun a ha hq => exec_read_not_ready (readReady_of_due hd ha hq) d⟩⟩
  · have hdue : (heldFor .throttle s && heldDue s) = true := by
      rw [heldFor_eq hh rfl, (heldDue_iff s).mpr ⟨_, hh, ht, .inl rfl⟩]
      rfl
    obtain ⟨t, hrun⟩ := upstream_next (.write (accessAddr addr) w be) { s with path := { s.path with held := none } }
    exact ⟨t, (event_takeHeld hr hdue ht hh).trans hrun, hrun⟩
  · have hdue : (heldFor .throttle s && heldDue s) = true := by
      rw [heldFor_eq hh rfl, (heldDue_iff s).mpr ⟨_, hh, ht, .inl rfl⟩]
      rfl
    obtain ⟨t, hrun⟩ := upstream_next (.read (accessAddr addr) be d) { s with path := { s.path with held := none } }
    exact ⟨t, (event_takeHeld hr hdue ht hh).trans hrun, hrun⟩
  · have hdue : (heldFor .judgeQueue s && heldDue s) = true := by
      rw [heldFor_eq hh rfl, (heldDue_iff s).mpr ⟨_, hh, ht, .inr hroom⟩]
      rfl
    obtain ⟨t, hrun⟩ := upstream_next (.write (captureAddr s.path.areaSel k.toNat 15) w allLanes)
      { s with path := { s.path with held := none } }
    exact ⟨t, (event_takeHeld hr hdue ht hh).trans hrun, hrun⟩

end Sys2Proof.Machine
end


section
/-! Frames, reports, listen windows and hold-offs (R85, R96 to R103, R106). -/
namespace Sys2Proof.Machine

/-! ### A failed attempt (R102) -/

theorem marks_occur (e : Events) (c : EventClass) : (e.occur c).marks = e.marks ||| c.mask := rfl

theorem pollFailed_marked (e : Events) : (e.occur .pollFailed).marks.getLsbD 2 = true := by
  rw [marks_occur, BitVec.getLsbD_or]
  exact Bool.or_true _

theorem failAttempt_holdoff {e : PollEntry} {s : State} (h : e.attempt.toNat < s.route.params.pollRetries.toNat + 1) :
    failAttempt e s =
      modPoll e.index (fun x => { x with sub := .holdoff (s.clk.ms + s.route.params.holdoff.setWidth 32) }) s :=
  if_pos h

/-- R102: the last attempt makes the meter UNREACHABLE. -/
theorem failAttempt_last {e : PollEntry} {m : Meter} {s : State}
    (h : s.route.params.pollRetries.toNat + 1 ≤ e.attempt.toNat) (hm : s.dir[e.index]? = some m) :
    failAttempt e s =
      { s with
        poll := { s.poll with list := s.poll.list.filter fun x => decide (x.index ≠ e.index) }
        dir := s.dir.modify e.index fun x => { x with state := .unreachable }
        route := { s.route with segs := movedSegs m.img.segment m.state .unreachable s.route.segs }
        ev := (movedEvents m.img.segment m.state .unreachable s.route.segs s.ev).occur .pollFailed } := by
  unfold failAttempt
  rw [if_neg (Nat.not_lt.mpr h), setMeterState_eq (s := removePoll e.index s) _ hm]
  rfl

/-- The entry that a change of the meter at `i` makes of `m`. -/
theorem getElem?_modify_some {α : Type} {f : α → α} {l : List α} {i : Nat} {m : α} (hm : l[i]? = some m) :
    (l.modify i f)[i]? = some (f m) := by
  rw [getElem?_modify_ite, if_pos rfl, hm]
  rfl

theorem getElem?_modify_of_ne {α : Type} (f : α → α) (l : List α) {i j : Nat} (h : j ≠ i) : (l.modify i f)[j]? = l[j]? := by
  rw [getElem?_modify_ite, if_neg h]

/-! ### Windows and hold-offs that end (R101 to R103) -/

theorem reached_iff (now t : Word) : reached now t = true ↔ (now - t).toNat < 2 ^ 31 := by
  rw [reached, BitVec.msb_eq_decide, Bool.not_eq_true', decide_eq_false_iff_not, Nat.not_le]

theorem canExpire_iff {s : State} {e : PollEntry} {expiry : Word} (he : pollOf s e.index = some e)
    (hs : e.sub = .listening expiry) (hc : s.flt.clockLost = false) (ht : (s.clk.ms - expiry).toNat < 2 ^ 31) :
    canExpire s e.index = true := by
  simp only [canExpire, he, hs, hc, (reached_iff _ _).mpr ht, Bool.not_false, Bool.and_self]

theorem exec_listenExpiry_taken {s : State} {e : PollEntry} {expiry : Word} (hr : Awake s)
    (he : pollOf s e.index = some e) (hs : e.sub = .listening expiry) (hc : s.flt.clockLost = false)
    (ht : (s.clk.ms - expiry).toNat < 2 ^ 31) :
    exec (.listenExpiry e.index) s = .next (finish s (failAttempt e s)) := by
  have hrun : exec (.listenExpiry e.index) s = .next (finish s (expire e.index s)) :=
    event_taken hr (canExpire_iff he hs hc ht)
  rw [hrun]
  simp only [expire, he]

theorem exec_holdoffRelease_taken {s : State} {e : PollEntry} {t : Word} (hr : Awake s)
    (he : pollOf s e.index = some e) (hs : e.sub = .holdoff t) (hc : s.flt.clockLost = false)
    (ht : (s.clk.ms - t).toNat < 2 ^ 31) :
    exec (.holdoffRelease e.index) s = .next (finish s (release e.index s)) := by
  refine event_taken hr ?_
  simp only [canRelease, he, hs, hc, (reached_iff _ _).mpr ht, Bool.not_false, Bool.and_self]

/-- Settles O56: an expiry is a failed attempt, and a release puts the entry at the tail. -/
theorem expiryAndReleaseMoveTheAttempt : Obligations.ExpiryAndReleaseMoveTheAttempt := by
  refine ⟨fun e m expiry s hr he hs hc ht hm => ?_, fun e t s hr he hs hc ht => ?_⟩
  · rw [exec_listenExpiry_taken hr he hs hc ht]
    refine ⟨fun hleft => ?_, fun hlast => ?_⟩
    · rw [failAttempt_holdoff hleft]
      rfl
    · rw [failAttempt_last hlast hm]
      exact ⟨_, rfl, rfl, getElem?_modify_some hm, pollFailed_marked _, rfl, rfl, rfl,
        fun j hj => getElem?_modify_of_ne _ _ hj, rfl, rfl⟩
  · rw [exec_holdoffRelease_taken hr he hs hc ht]
    simp only [release, he]
    rfl

/-! ### Reports (R98, R99) -/

theorem exec_txReport_eq (k : BitVec 5) (w : BusWord) (s : State) :
    exec (.txReport k w) s =
      exec (.upstreamWrite (BitVec.ofNat 32 (txAddr s.path.areaSel k.toNat 7)) w allLanes) s := by
  have ha := accessAddr_tx s.path.areaSel (k := k.toNat) (w := 7) (by omega) (by decide)
  exact congrArg (fun a => upstream (.write a w allLanes) s) ha.symm

theorem exec_txReport_taken {k : BitVec 5} {w : BusWord} {s : State} (hf : BusFree s)
    (hq : NotQueued s (txAddr s.path.areaSel k.toNat 7)) :
    exec (.txReport k w) s =
      .next (finish s (takeReport k.toNat w.data (written (txAddr s.path.areaSel k.toNat 7) w allLanes s))) := by
  have hw : windowOf s.path.areaSel (txAddr s.path.areaSel k.toNat 7) = .tx k.toNat 7 := windowOf_tx _ (by omega) (by decide)
  have hrun : exec (.txReport k w) s =
      .next (finish s (takeWrite (txAddr s.path.areaSel k.toNat 7) w allLanes s)) := upstream_taken hf
  rw [hrun, takeWrite_passes hw (blockReason_tx s k.toNat 7) hq rfl, passSnapshot_eq s rfl, passWrite_tx, if_pos rfl]
  rfl

theorem takeReport_done {k : Nat} {e : PollEntry} {s : State} (h : s.txState k ≠ .free) (he : inRingAt s k = some e) :
    takeReport k Config.done s =
      { s with
        poll :=
          { s.poll with
            tx := setD .free s.poll.tx k .free
            list := s.poll.list.map fun x =>
              if x.index = e.index then { x with sub := .listening (expiryOf s e) } else x
            sent := satInc s.poll.sent } } := by
  simp only [takeReport, if_neg h, he, if_true]
  rfl

theorem takeReport_failed {k : Nat} {e : PollEntry} {s : State} (h : s.txState k ≠ .free) (he : inRingAt s k = some e) :
    takeReport k Config.failed s = failAttempt e (setTx k .free s) := by
  have hne : ¬Config.failed = Config.done := by decide
  simp only [takeReport, if_neg h, he, if_neg hne, if_true]

theorem takeReport_other {k : Nat} {v : Word} {s : State} (hd : v ≠ Config.done) (hf : v ≠ Config.failed) :
    takeReport k v s = s := by
  unfold takeReport
  rw [if_neg hd, if_neg hf, ite_self]

/-- R98: a report on a slot whose entry is gone frees the slot alone. -/
theorem takeReport_gone {k : Nat} {v : Word} {s : State} (hv : v = Config.done ∨ v = Config.failed)
    (hs : s.txState k ≠ .free) (hn : inRingAt s k = none) : takeReport k v s = setTx k .free s := by
  have hne : ¬Config.failed = Config.done := by decide
  rcases hv with rfl | rfl
  · simp only [takeReport, if_neg hs, hn, if_true]
  · simp only [takeReport, if_neg hs, hn, if_neg hne, if_true]

/-- Settles O55: the report's word passes to the store and `takeReport` acts on what it finds of the slot. -/
theorem reportFreesTheSlot : Obligations.ReportFreesTheSlot := by
  refine ⟨fun k w s base hf hq hcan hbase => ?_, fun k w s => exec_txReport_eq k w s⟩
  have hfree : getD TxState.free (setD TxState.free s.poll.tx k.toNat .free) k.toNat = .free :=
    getD_setD_same _ _ _ _ hcan
  have hother : ∀ j, j ≠ k.toNat →
      getD TxState.free (setD TxState.free s.poll.tx k.toNat .free) j = s.txState j :=
    fun j hj => getD_setD_other _ _ _ hj
  rw [exec_txReport_taken hf hq, ← hbase]
  have htx : base.txState k.toNat = s.txState k.toNat := hbase ▸ rfl
  have hring : inRingAt base k.toNat = inRingAt s k.toNat := hbase ▸ rfl
  have hawait : s.txState k.toNat = .awaiting → base.txState k.toNat ≠ .free := fun h hc => by
    rw [htx, h] at hc
    exact nomatch hc
  refine ⟨fun h => ?_, fun hd hfl => ?_, fun h hv hn => ?_, fun e p h hd he hp => ?_, fun e h hfl he => ⟨fun hlt => ?_, fun m hle hm => ?_⟩⟩
  · rw [takeReport_free _ (htx.trans h)]
  · rw [takeReport_other hd hfl]
  · rw [takeReport_gone hv (hawait h) (hring.trans hn)]
    subst hbase
    exact ⟨_, rfl, rfl, rfl, hfree, hother⟩
  · rw [hd, show (0x0000D001#32 : Word) = Config.done from rfl, takeReport_done (hawait h) (hring.trans he)]
    have hexp : expiryOf base e = s.clk.ms +
        BitVec.ofNat 32 (s.route.params.listenBase.toNat + s.route.params.listenHop.toNat * p.hops.toNat) := by
      rw [expiryOf, hp, hbase]
      rfl
    rw [hexp]
    subst hbase
    exact ⟨_, rfl, hfree, hother, rfl, rfl, rfl, rfl, rfl, rfl, rfl⟩
  · rw [hfl, show (0x0000F001#32 : Word) = Config.failed from rfl, takeReport_failed (hawait h) (hring.trans he)]
    subst hbase
    rw [failAttempt_holdoff (s := setTx _ _ (written _ _ _ s)) hlt]
    exact ⟨_, rfl, hfree, hother, rfl, rfl, rfl, rfl, rfl, rfl, rfl⟩
  · rw [hfl, show (0x0000F001#32 : Word) = Config.failed from rfl, takeReport_failed (hawait h) (hring.trans he)]
    subst hbase
    rw [failAttempt_last (s := setTx _ _ (written _ _ _ s)) hle hm]
    exact ⟨_, rfl, hfree, hother, rfl, rfl, rfl, rfl, getElem?_modify_some hm,
      fun j hj => getElem?_modify_of_ne _ _ hj, pollFailed_marked _, rfl, rfl, rfl, rfl, rfl⟩

/-! ### Frames (R96, R97) -/

theorem giveAll_eq (p : Producer) (l : List QWrite) : ∀ s : State,
    l.foldl (fun u q => give p q u) s = giving (l.map fun q => (p, q)) s := by
  induction l with
  | nil => exact fun s => by simp [giving]
  | cons q l ih =>
    intro s
    rw [List.foldl_cons, ih, give_eq, giving_giving]
    rfl

theorem firstQueued_eq {s : State} {pre post : List PollEntry} {e : PollEntry} (hl : s.poll.list = pre ++ e :: post)
    (he : e.sub = .queued) (hpre : ∀ x ∈ pre, x.sub ≠ .queued) : firstQueued s = some e := by
  unfold firstQueued
  rw [List.find?_eq_some_iff_append]
  exact ⟨decide_eq_true he, pre, post, hl, fun x hx => by simp [hpre x hx]⟩

theorem nextTx_eq {s : State} {n : Nat} (hn : n < 32) (hk : s.txState ((s.poll.ringPos + n) % 32) = .free)
    (hbefore : ∀ j, j < n → s.txState ((s.poll.ringPos + j) % 32) ≠ .free) :
    nextTx s = some ((s.poll.ringPos + n) % 32) := by
  unfold nextTx
  rw [List.find?_map]
  have hfind : (List.range Config.txSlots).find?
      ((fun k => decide (s.txState k = .free)) ∘ fun d => (s.poll.ringPos + d) % Config.txSlots) = some n := by
    rw [List.find?_range_eq_some]
    exact ⟨decide_eq_true hk, List.mem_range.mpr hn, fun j hj => by
      rw [Bool.not_eq_true', Function.comp_apply]
      exact decide_eq_false (hbefore j hj)⟩
  rw [hfind]
  rfl

theorem framePath_eq {m : Meter} {path : RelayPath}
    (h : (∃ l, m.learned = some l ∧ path = l.path) ∨ (m.learned = none ∧ m.img.stored = some path) ∨
      (m.learned = none ∧ m.img.stored = none ∧ path = ⟨0, 0, 0⟩)) : framePath m = path := by
  rcases h with ⟨l, hl, rfl⟩ | ⟨hl, hs⟩ | ⟨hl, hs, rfl⟩
  · simp only [framePath, hl]
  · simp only [framePath, hl, hs]
  · simp only [framePath, hl, hs]
    rfl

/-- R97: the writes of a frame. -/
theorem frameWrites_eq (sel : BitVec 3) (k : Nat) (ws : List Word) :
    (frameWrites sel k ws).map (fun q => (Producer.pollUnit, q)) =
      (List.range 6).map (fun x => (Producer.pollUnit, QWrite.word (txAddr sel k x) (ws.getD x 0) false)) ++
        [(.pollUnit, .word (txAddr sel k 6) ((crc16 (wordBytes ws)).setWidth 32) false),
          (.pollUnit, .word (txAddr sel k 7) 0x0000A001#32 false)] := by
  unfold frameWrites
  rw [List.map_append, List.map_map, place_zero]
  rfl

/-- Settles O54: the frame is begun for the first QUEUED entry in the first FREE slot of the ring. -/
theorem frameTakesTheFirstQueuedEntry : Obligations.FrameTakesTheFirstQueuedEntry := by
  intro pre post e m n k path tag ws s hr hw hfl hl he hpre hn hk hfree hbefore hm hpath htag hws
  subst hk
  have hfirst := firstQueued_eq hl he hpre
  have hnext := nextTx_eq hn hfree hbefore
  have hcan : canFrame s = true := by
    have hlt : decide (s.inFlightCount < Config.inFlightLimit) = true := decide_eq_true hfl
    simp only [canFrame, hw, hlt, hfirst, hnext, Option.isSome_some, Bool.not_false, Bool.and_self]
  have hrun : exec .frameBegin s = .next (finish s (beginFrame s)) := event_taken hr hcan
  have hwords : frameWords m.img.id path e.attempt tag (listenTime s.route.params path) = ws := by
    rw [hws, frameWords, place_zero]
    rfl
  have hbegin : beginFrame s = startFrame e m ((s.poll.ringPos + n) % 32) s := by
    simp only [beginFrame, hfirst, hnext, hm]
  have htag' : nextTag s.poll.tag = tag := htag.symm
  rw [hrun, hbegin]
  unfold startFrame
  dsimp only
  rw [framePath_eq hpath, htag', hwords, giveAll_eq, frameWrites_eq, ← giving_giving]
  have hsame : getD TxState.free (setD TxState.free s.poll.tx ((s.poll.ringPos + n) % 32) .awaiting)
      ((s.poll.ringPos + n) % 32) = .awaiting := getD_setD_same_of_ne _ _ _ (by decide)
  have hother : ∀ j, j ≠ (s.poll.ringPos + n) % 32 →
      getD TxState.free (setD TxState.free s.poll.tx ((s.poll.ringPos + n) % 32) .awaiting) j = s.txState j :=
    fun j hj => getD_setD_other _ _ _ hj
  exact ⟨_, rfl, rfl, hsame, hother, rfl, rfl, getElem?_modify_some hm,
    fun j hj => getElem?_modify_of_ne _ _ hj, rfl, rfl, rfl, rfl, rfl, rfl, rfl⟩

end Sys2Proof.Machine
end


section
/-! Reset, the route clock, sleep and WAKE, and occurrences (R17, R56, R183 to R187, R193). -/
namespace Sys2Proof.Machine

/-! ### Reset (R17) -/

theorem alert_resetPart (sel : BitVec 3) (s : State) : (resetPart sel s).alert = false := by
  simp [State.alert, resetPart, State.afterReset]

/-- Settles O15: POWER_ON and RESET_N_RELEASED give `resetPart`, whose fields are those of `State.afterReset`. -/
theorem resetGivesTheResetState : Obligations.ResetGivesTheResetState := by
  intro sel s
  have hrel : s.path.resetAsserted = true → exec (.resetNReleased sel) s = .next (resetPart sel s) := fun h =>
    congrArg Host.Outcome.next (if_pos h)
  exact ⟨resetPart sel s, rfl, hrel, fun _ => ⟨rfl, rfl⟩, rfl, rfl, rfl, rfl, rfl, rfl, rfl, rfl, rfl, rfl, rfl, rfl, rfl,
    rfl, rfl, rfl, rfl, rfl, rfl, rfl, rfl, rfl, rfl, rfl, rfl, rfl, rfl, rfl, rfl, rfl, rfl, rfl, rfl, rfl, rfl, rfl, rfl,
    rfl, rfl, rfl, rfl, alert_resetPart sel s⟩

theorem exec_routeClockAdvance (s : State) :
    exec .routeClockAdvance s = event (!s.flt.clockLost) (fun t => advanceClock (refclkSeen t)) s := rfl

theorem exec_sleepStateChange (levels : List Bool) (s : State) :
    exec (.sleepStateChange levels) s = event true (fun t => levels.foldl sleepEdge t) s := rfl

theorem exec_wakePulseEnd (s : State) :
    exec .wakePulseEnd s =
      event (s.ev.pulse.requested || decide (0 < s.ev.pulse.left))
        (fun t => { t with ev := { t.ev with pulse := ⟨false, 0⟩ } }) s := rfl

/-- While RESET_N is asserted only the reset commands act. -/
theorem exec_in_reset {c : Instr} {s : State} (hr : s.path.resetAsserted = true) (hc : isResetCommand c = false) :
    exec c s = .next s := by
  cases c with
  | powerOn sel => exact nomatch hc
  | resetNAsserted => exact nomatch hc
  | resetNReleased sel => exact nomatch hc
  | routeClockAdvance => rw [exec_routeClockAdvance, event_in_reset hr]
  | sleepStateChange levels => rw [exec_sleepStateChange, event_in_reset hr]
  | wakePulseEnd => rw [exec_wakePulseEnd, event_in_reset hr]
  | _ => exact event_in_reset hr

/-- Settles O16: the assertion gives the reset state with an empty queue, and every other command is an event, which is not
taken. -/
theorem resetAssertionStopsThePart : Obligations.ResetAssertionStopsThePart :=
  ⟨fun s => ⟨assertReset s, rfl, fun _ => ⟨rfl, rfl⟩, rfl, rfl, rfl, rfl, rfl, rfl, rfl, rfl, rfl, rfl, rfl, rfl, rfl, rfl,
    rfl, rfl⟩, fun _ _ => exec_in_reset⟩

/-! ### The route clock (R56, R193) -/

theorem refclkEdge_lost {s : State} (h : s.flt.clockLost = true) : refclkEdge s = refclkSeen s :=
  if_pos h

theorem refclkEdge_runs {s : State} (h : s.flt.clockLost = false) :
    refclkEdge s =
      if s.clk.divider = 1023#10 then advanceClock (refclkSeen s)
      else { refclkSeen s with clk := { s.clk with divider := s.clk.divider + 1 } } :=
  if_neg (by rw [h]; exact Bool.false_ne_true)

theorem refclkEdge_counts {s : State} (h : s.flt.clockLost = false) (hd : s.clk.divider ≠ 1023) :
    refclkEdge s =
      { s with flt := { s.flt with detector := 0 }, clk := { s.clk with divider := s.clk.divider + 1 } } :=
  (refclkEdge_runs h).trans (if_neg hd)

theorem refclkEdge_advances {s : State} (h : s.flt.clockLost = false) (hd : s.clk.divider = 1023) :
    refclkEdge s = { s with flt := { s.flt with detector := 0 }, clk := ⟨s.clk.ms + 1, 0⟩ } :=
  (refclkEdge_runs h).trans (if_pos hd)

theorem detectorFull_latched {s : State} (h : s.flt.clockLost = true) :
    detectorFull s = { s with flt := { s.flt with detector := 4096 } } :=
  if_pos h

theorem detectorFull_latches {s : State} (h : s.flt.clockLost = false) :
    detectorFull s =
      { s with flt := { s.flt with clockLost := true, detector := 4096 }, ev := s.ev.occur .fault } :=
  if_neg (by rw [h]; exact Bool.false_ne_true)

/-- Settles O58: each command is one event, and what it does depends on the latch of CLOCK_LOST and the divider. -/
theorem clockFollowsRefclk : Obligations.ClockFollowsRefclk := by
  intro s hr
  have hedge : exec .refclkRisingEdge s = .next (finish s (refclkEdge s)) := event_taken hr rfl
  have hfull : exec .clockLost s = .next (finish s (detectorFull s)) := event_taken hr rfl
  rw [hedge, hfull]
  refine ⟨fun h => ?_, fun h hd => ?_, fun h hd => ?_, fun h => ?_, fun h => ?_, fun h => ?_⟩
  · rw [refclkEdge_lost h]
    rfl
  · rw [refclkEdge_counts h hd]
  · rw [refclkEdge_advances h hd]
  · rw [exec_routeClockAdvance, event_taken hr (by rw [h]; rfl)]
    rfl
  · rw [detectorFull_latches h]
  · rw [detectorFull_latched h]

/-! ### Samples of SLEEP_IND (R186, R187) -/

/-- R186, R187: the events after an edge at which SLEEP_IND shows `b`. -/
def Events.edge (b : Bool) (e : Events) : Events := { e with sleepPin := b, pulse := e.pulse.edge }.sample

/-- The events after an edge at which SLEEP_IND shows `b`, before a level shown twice is taken. -/
def Events.shown (b : Bool) (e : Events) : Events :=
  { e with sleepPin := b, pulse := e.pulse.edge, lastSample := some b }

theorem Events.edge_other {b : Bool} {e : Events} (h : e.lastSample ≠ some b) : e.edge b = e.shown b :=
  if_neg h

theorem Events.edge_same {b : Bool} {e : Events} (h : e.lastSample = some b) : e.edge b = (e.shown b).sleepLevel b :=
  if_pos h

theorem Events.sleepLevel_change {b : Bool} {e : Events} (hs : e.settled = true) (ha : e.asleep ≠ b) :
    e.sleepLevel b =
      { e with
        asleep := b
        pulse := { e.pulse with requested := e.pulse.requested || (b && (e.marks &&& e.wake) != 0) } } := by
  rw [Events.sleepLevel, hs]
  exact if_neg ha

theorem Events.sleepLevel_same {b : Bool} {e : Events} (h : e.settled = false ∨ e.asleep = b) :
    e.sleepLevel b = { e with settled := true, asleep := b } := by
  unfold Events.sleepLevel
  cases hs : e.settled with
  | false => rfl
  | true =>
    have ha : e.asleep = b := h.resolve_left (by rw [hs]; exact fun h => nomatch h)
    rw [if_neg (by exact Bool.false_ne_true), if_pos ha, ← hs, ← ha]

/-- R187: the running pulse over two edges with no request between them. -/
theorem Pulse.edge_edge (p : Pulse) : p.edge.edge = ⟨false, if p.requested then 31 else p.left - 2⟩ := by
  unfold Pulse.edge
  split
  · rfl
  · simp only [Bool.false_eq_true, if_false]
    congr 1

theorem Pulse.edge_requested (p : Pulse) : p.edge.requested = false := by
  unfold Pulse.edge
  split <;> rfl

theorem Pulse.edge_eq {p : Pulse} (h : p.requested = false) : p.edge = ⟨false, p.left - 1⟩ := by
  rw [Pulse.edge, h]
  rfl

/-- An edge at which the detector raises nothing. -/
theorem bclkEdge_quiet {s : State} (h : s.flt.clockLost = true ∨ s.flt.detector + 1 < 4096) :
    ∃ detector, bclkEdge s =
        { s with
          ev := { s.ev with pulse := s.ev.pulse.edge }.sample
          flt := { s.flt with detector := detector } } ∧ detector ≤ s.flt.detector + 1 := by
  unfold bclkEdge detectorEdge
  by_cases hfull : Config.refclkLimit ≤ s.flt.detector + 1
  · rw [if_pos (by exact hfull)]
    have hlost : s.flt.clockLost = true := h.resolve_right (Nat.not_lt.mpr hfull)
    exact ⟨4096, detectorFull_latched hlost, hfull⟩
  · rw [if_neg (by exact hfull)]
    exact ⟨_, rfl, Nat.le_refl _⟩

/-- Two edges at which the detector raises nothing. -/
theorem exec_sleepStateChange_two (a b : Bool) {s : State} (hr : Awake s)
    (h : s.flt.clockLost = true ∨ s.flt.detector + 2 < 4096) :
    ∃ flt, exec (.sleepStateChange [a, b]) s =
      .next (finish s { s with ev := (s.ev.edge a).edge b, flt := flt }) := by
  obtain ⟨d₁, hone, hd₁⟩ := bclkEdge_quiet (s := { s with ev := { s.ev with sleepPin := a } }) (h.imp id fun h => by
    show s.flt.detector + 1 < 4096
    omega)
  have hone' : sleepEdge s a = { s with ev := s.ev.edge a, flt := { s.flt with detector := d₁ } } := hone
  obtain ⟨d₂, htwo, _⟩ := bclkEdge_quiet
    (s := { s with ev := { s.ev.edge a with sleepPin := b }, flt := { s.flt with detector := d₁ } }) (h.imp id fun h => by
      change d₁ ≤ s.flt.detector + 1 at hd₁
      show d₁ + 1 < 4096
      omega)
  have hrun : exec (.sleepStateChange [a, b]) s = .next (finish s (sleepEdge (sleepEdge s a) b)) := by
    rw [exec_sleepStateChange, event_taken hr rfl]
    rfl
  exact ⟨_, by rw [hrun, hone']; exact congrArg (fun t => Host.Outcome.next (finish s t)) htwo⟩

theorem requested_eq (b : Bool) (x : BitVec 9) : (false || (b && x != 0)) = (b && decide (x ≠ 0)) := by
  have hne : (x != 0) = decide (x ≠ 0) := Bool.eq_iff_iff.mpr (by rw [bne_iff_ne, decide_eq_true_iff])
  rw [Bool.false_or, hne]

/-- Settles O59: the two edges act on the events one after the other; the cases are whether the first sample repeats the one
before it. -/
theorem sleepAndWake : Obligations.SleepAndWake := by
  refine ⟨fun b left s hr hdet hleft => ⟨fun hs ha hl => ?_, fun hsame => ?_, fun hs ha hl => ?_⟩, fun s hr hp => ?_⟩
  · obtain ⟨flt, hrun⟩ := exec_sleepStateChange_two b b hr hdet
    have hev : (s.ev.edge b).edge b =
        { s.ev with
          sleepPin := b, lastSample := some b, asleep := b
          pulse := ⟨b && decide (s.ev.marks &&& s.ev.wake ≠ 0), left⟩ } := by
      rw [Events.edge_other hl, Events.edge_same rfl, Events.sleepLevel_change (e := (s.ev.shown b).shown b) hs ha]
      simp only [Events.shown, Pulse.edge_edge, requested_eq, ← hleft]
    exact ⟨_, hrun, hev, rfl, rfl, rfl, fun a => ⟨rfl, rfl⟩⟩
  · obtain ⟨flt, hrun⟩ := exec_sleepStateChange_two b b hr hdet
    have hev : (s.ev.edge b).edge b =
        { s.ev with sleepPin := b, lastSample := some b, asleep := b, settled := true, pulse := ⟨false, left⟩ } := by
      by_cases hl : s.ev.lastSample = some b
      · rw [Events.edge_same hl, Events.sleepLevel_same (e := s.ev.shown b) hsame, Events.edge_same rfl,
          Events.sleepLevel_same (b := b) (.inr rfl)]
        simp only [Events.shown, Pulse.edge_edge, ← hleft]
      · rw [Events.edge_other hl, Events.edge_same rfl, Events.sleepLevel_same (e := (s.ev.shown b).shown b) hsame]
        simp only [Events.shown, Pulse.edge_edge, ← hleft]
    exact ⟨_, hrun, hev, rfl, rfl, rfl, fun a => ⟨rfl, rfl⟩⟩
  · obtain ⟨flt, hrun⟩ := exec_sleepStateChange_two b (!b) hr hdet
    have hev : (s.ev.edge b).edge (!b) =
        { s.ev with sleepPin := !b, lastSample := some (!b), pulse := ⟨false, left⟩ } := by
      have hne : s.ev.lastSample ≠ some b := by
        rw [hl]
        exact fun h => ha (Option.some.inj h)
      rw [Events.edge_other hne, Events.edge_other (e := s.ev.shown b) (by simp [Events.shown])]
      simp only [Events.shown, Pulse.edge_edge, ← hleft]
    exact ⟨_, hrun, hev⟩
  · rw [exec_wakePulseEnd, event_taken hr (by rw [decide_eq_true hp, Bool.or_true])]

/-! ### Occurrences (R183 to R185, R187) -/

/-- R183: the bit of a class. -/
def EventClass.bit : EventClass → Nat
  | .tamper => 0
  | .segmentDone => 1
  | .pollFailed => 2
  | .storeLow => 3
  | .routeDone => 4
  | .commandDone => 5
  | .overrun => 6
  | .blocked => 7
  | .fault => 8

theorem EventClass.mask_eq (c : EventClass) : c.mask = BitVec.twoPow 9 c.bit := by cases c <;> decide

theorem EventClass.exists_bit {i : Nat} (h : i < 9) : ∃ c : EventClass, c.bit = i := by
  interval_cases i
  exacts [⟨.tamper, rfl⟩, ⟨.segmentDone, rfl⟩, ⟨.pollFailed, rfl⟩, ⟨.storeLow, rfl⟩, ⟨.routeDone, rfl⟩, ⟨.commandDone, rfl⟩,
    ⟨.overrun, rfl⟩, ⟨.blocked, rfl⟩, ⟨.fault, rfl⟩]

theorem EventClass.bit_lt (c : EventClass) : c.bit < 9 := by cases c <;> decide

/-- A set of classes names a class exactly when the class's bit is set. -/
theorem EventClass.and_mask_ne_zero (c : EventClass) (x : BitVec 9) : x &&& c.mask ≠ 0 ↔ x.getLsbD c.bit = true := by
  rw [c.mask_eq, BitVec.and_twoPow]
  cases x.getLsbD c.bit with
  | false => simp
  | true =>
    have hne : BitVec.twoPow 9 c.bit ≠ 0 := by rw [← c.mask_eq]; cases c <;> decide
    simpa using hne

theorem and_ne_zero_iff (x y : BitVec 9) :
    x &&& y ≠ 0 ↔ ∃ c : EventClass, x &&& c.mask ≠ 0 ∧ y &&& c.mask ≠ 0 := by
  simp only [EventClass.and_mask_ne_zero]
  constructor
  · intro h
    by_contra hno
    refine h (BitVec.eq_of_getLsbD_eq fun i hi => ?_)
    obtain ⟨c, rfl⟩ := EventClass.exists_bit hi
    have hboth : ¬(x.getLsbD c.bit && y.getLsbD c.bit) = true := fun hb => hno ⟨c, Bool.and_eq_true_iff.mp hb⟩
    rw [BitVec.getLsbD_and, Bool.eq_false_of_not_eq_true hboth]
    exact BitVec.getLsbD_zero.symm
  · rintro ⟨c, hx, hy⟩ h
    have hb : (x &&& y).getLsbD c.bit = true := by rw [BitVec.getLsbD_and, hx, hy]; rfl
    rw [h] at hb
    simp at hb

theorem alert_iff {s : State} (hr : Awake s) : s.alert = true ↔ s.ev.marks &&& s.ev.notify ≠ 0 := by
  have hr' : s.path.resetAsserted = false := hr
  rw [State.alert, hr', Bool.not_false, Bool.true_and, bne_iff_ne]

/-- Settles O60: an occurrence adds its class's mask, and ALERT_N shows whether the pending and the notify-enabled classes
meet. -/
theorem occurrencesSetMarksAndWake : Obligations.OccurrencesSetMarksAndWake := by
  refine ⟨fun c s => ⟨rfl, rfl, rfl, ?_, fun hr hn => ?_⟩, fun s => ⟨fun hr => ?_, fun hr => ?_⟩, by decide⟩
  · show (s.ev.pulse.requested || (s.ev.asleep && (s.ev.wake &&& c.mask) != 0)) = _
    rw [← requested_eq, Bool.false_or]
  · rw [alert_iff (s := raise c s) hr, and_ne_zero_iff]
    refine ⟨c, ?_, hn⟩
    show (s.ev.marks ||| c.mask) &&& c.mask ≠ 0
    rw [c.and_mask_ne_zero, BitVec.getLsbD_or, c.mask_eq, BitVec.getLsbD_twoPow]
    simp [c.bit_lt]
  · rw [alert_iff hr, and_ne_zero_iff]
  · rw [State.alert, hr]
    rfl

end Sys2Proof.Machine
end


section
/-! Inserted reads: which word is read next, when the read has its turn, and what it hands over (R13, R15, R19). -/
namespace Sys2Proof.Machine

/-! ### The newest entry of a word (R13) -/

/-- The last entry of `es` for the word at `a`. -/
def newestIn (a : Nat) (es : List QEntry) : Option QEntry := es.foldl (fun r e => if e.addr = a then some e else r) none

theorem newest_eq_newestIn (i : Inserts) (a : Nat) : i.newest a = newestIn a i.entries := rfl

theorem newestIn_concat (a : Nat) (es : List QEntry) (e : QEntry) :
    newestIn a (es ++ [e]) = if e.addr = a then some e else newestIn a es := by simp [newestIn]

theorem newestIn_append_same {a : Nat} {es : List QEntry} {e : QEntry} (h : e.addr = a) : newestIn a (es ++ [e]) = some e := by
  rw [newestIn_concat, if_pos h]

theorem newestIn_append_other {a : Nat} {post : List QEntry} (es : List QEntry) (h : ∀ x ∈ post, x.addr ≠ a) :
    newestIn a (es ++ post) = newestIn a es := by
  induction post using List.reverseRecOn with
  | nil => rw [List.append_nil]
  | append_singleton xs x ih =>
    rw [← List.append_assoc, newestIn_concat, if_neg (h x (by simp))]
    exact ih fun y hy => h y (by simp [hy])

theorem newestIn_eq_none_iff (a : Nat) (es : List QEntry) : newestIn a es = none ↔ ∀ x ∈ es, x.addr ≠ a := by
  induction es using List.reverseRecOn with
  | nil => simp [newestIn]
  | append_singleton es e ih =>
    rw [newestIn_concat]
    by_cases h : e.addr = a
    · simp [h]
    · rw [if_neg h, ih]
      simp [or_imp, forall_and, h]

theorem newestIn_eq_some_iff (a : Nat) (es : List QEntry) (e : QEntry) :
    newestIn a es = some e ↔ ∃ pre post, es = pre ++ e :: post ∧ e.addr = a ∧ ∀ x ∈ post, x.addr ≠ a := by
  constructor
  · intro hsome
    induction es using List.reverseRecOn with
    | nil => exact absurd hsome (by simp [newestIn])
    | append_singleton es y ih =>
      rw [newestIn_concat] at hsome
      split_ifs at hsome with hy
      · obtain rfl := Option.some.inj hsome
        exact ⟨es, [], rfl, hy, by simp⟩
      · obtain ⟨pre, post, rfl, ha, hpost⟩ := ih hsome
        refine ⟨pre, post ++ [y], by simp, ha, fun x hx => ?_⟩
        rcases List.mem_append.mp hx with hx | hx
        · exact hpost x hx
        · rwa [List.mem_singleton.mp hx]
  · rintro ⟨pre, post, rfl, ha, hpost⟩
    have hcons : pre ++ e :: post = (pre ++ [e]) ++ post := by simp
    rw [hcons, newestIn_append_other _ hpost, newestIn_append_same ha]

/-! ### What a completed read hands over (R13, R19) -/

theorem readResult_queued {s : State} {a : Nat} {e : QEntry} (d : Disturb) (ha : nextRead s = some a)
    (he : s.ins.newest a = some e) : readResult s d = (e.data, false) := by simp only [readResult, ha, he]

theorem readResult_stored {s : State} {a : Nat} (d : Disturb) (ha : nextRead s = some a) (he : s.ins.newest a = none) :
    readResult s d = ((s.store.answer a d).data, parityError (s.store.answer a d)) := by simp only [readResult, ha, he]

theorem completeRead_queued {s : State} {a : Nat} {e : QEntry} (d : Disturb) (ha : nextRead s = some a)
    (he : s.ins.newest a = some e) : completeRead d s = s := by simp only [completeRead, ha, he]

theorem completeRead_good {s : State} {a : Nat} {d : Disturb} (ha : nextRead s = some a) (he : s.ins.newest a = none)
    (hp : parityError (s.store.answer a d) = false) :
    completeRead d s = { s with path := { s.path with lastGrant := .insertedRead }, ev := s.ev.sample } := by
  simp [completeRead, ha, he, hp]

theorem completeRead_bad {s : State} {a : Nat} {d : Disturb} (ha : nextRead s = some a) (he : s.ins.newest a = none)
    (hp : parityError (s.store.answer a d) = true) :
    completeRead d s =
      latchStoreError a { s with path := { s.path with lastGrant := .insertedRead }, ev := s.ev.sample } := by
  simp [completeRead, ha, he, hp]

theorem parityError_answer_iff (s : State) (a : Nat) (d : Disturb) :
    parityError (s.store.answer a d) = true ↔
      s.store.parity a ^^^ d.parity ≠ evenParity (s.store.word a ^^^ d.data) := bne_iff_ne

/-! ### When the read has its turn (R15) -/

theorem readReady_iff (s : State) :
    readReady s = true ↔
      ∃ a, nextRead s = some a ∧
        (s.ins.newest a ≠ none ∨ (heldDue s = false ∧ (s.ins.entries = [] ∨ s.path.lastGrant = .queuedWrite))) := by
  unfold readReady
  cases nextRead s with
  | none => simp
  | some a => simp [Option.isSome_iff_ne_none]

theorem readWaits_iff (s : State) : readWaits s = true ↔ ∃ a, nextRead s = some a ∧ s.ins.newest a = none := by
  unfold readWaits
  cases nextRead s with
  | none => simp
  | some a => simp

/-! ### Which word is read next -/

theorem nextRead_slots {s : State} {k : Nat} {ws : List Word} (h : s.sm.scan = .slots k ws) :
    nextRead s = some (recordAddr s.path.areaSel k ws.length) := by simp only [nextRead, h]

theorem nextRead_rebuild {s : State} {k : Nat} {rest : List Nat} (h : s.sm.scan = .rebuild (k :: rest) none) :
    nextRead s = some (recordAddr s.path.areaSel k 3) := by simp only [nextRead, h]

theorem nextRead_rebuild_id {s : State} {k : Nat} {rest : List Nat} {id : Word}
    (h : s.sm.scan = .rebuild (k :: rest) (some id)) : nextRead s = some (recordAddr s.path.areaSel k 5) := by
  simp only [nextRead, h]

theorem nextRead_number {s : State} (h : s.sm.scan = .done) (hl : s.route.load = some .number) :
    nextRead s = some (imageAddr s.path.areaSel 1) := by simp only [nextRead, h, hl]

theorem nextRead_header {s : State} {n : Half} {ws : List Word} {crc : Word} (h : s.sm.scan = .done)
    (hl : s.route.load = some (.header n ws crc)) : nextRead s = some (imageAddr s.path.areaSel ws.length) := by
  simp only [nextRead, h, hl]

theorem nextRead_entry {s : State} {n : Half} {hd ws : List Word} {i : Nat} {crc : Word} (h : s.sm.scan = .done)
    (hl : s.route.load = some (.entry n hd i ws crc)) : nextRead s = some (entryAddr s.path.areaSel i ws.length) := by
  simp only [nextRead, h, hl]

theorem nextRead_build {s : State} {b : Batch} {it : BatchItem} (h : s.sm.scan = .done) (hl : s.route.load = none)
    (hb : s.up.batch = some b) (hst : b.state = .building) (hit : b.items[b.place]? = some it) :
    nextRead s = some (recordAddr s.path.areaSel it.slot b.word) := by
  simp only [nextRead, h, hl, hb, if_pos hst, hit, Option.map_some]

theorem nextRead_none {s : State} (h : s.sm.scan = .done) (hl : s.route.load = none)
    (hb : ∀ b, s.up.batch = some b → b.state ≠ .building) : nextRead s = none := by
  cases hbatch : s.up.batch with
  | none => simp only [nextRead, h, hl, hbatch]
  | some b => simp only [nextRead, h, hl, hbatch, if_neg (hb b hbatch)]

/-- Settles O49: the newest queued entry answers a read, and the store does, with its parity checked, when there is none. -/
theorem insertedReadsAreCheckedAgainstParity : Obligations.InsertedReadsAreCheckedAgainstParity := by
  refine ⟨fun s d a ha => ⟨fun e he => ⟨readResult_queued d ha he, completeRead_queued d ha he⟩, fun he => ?_⟩,
    fun s => ⟨fun k ws => nextRead_slots, fun k rest => nextRead_rebuild, fun k rest id => nextRead_rebuild_id,
      fun h => ⟨nextRead_number h, fun n ws crc => nextRead_header h, fun n hd i ws crc => nextRead_entry h,
        fun b it hl hb hst hit => nextRead_build h hl hb hst hit, nextRead_none h⟩⟩,
    fun i a e => ⟨newestIn_eq_some_iff a _ e, newestIn_eq_none_iff a _⟩,
    fun s => ⟨readReady_iff s, readWaits_iff s, fun h d => exec_read_not_ready h d⟩⟩
  rw [readResult_stored d ha he]
  refine ⟨rfl, parityError_answer_iff s a d, ?_⟩
  dsimp only
  cases hp : parityError (s.store.answer a d) with
  | true =>
    rw [completeRead_bad ha he hp]
    exact ⟨by simp [latchStoreError, raise], rfl, rfl, rfl⟩
  | false =>
    rw [completeRead_good ha he hp]
    exact ⟨by simp, rfl, rfl, rfl⟩

end Sys2Proof.Machine
end


section
/-! The load of a route: the route number, the header, the entries, and how a load ends (R38 to R44, R49). -/
namespace Sys2Proof.Machine

/-! ### What a completed read leaves -/

/-- A completed read changes only the grant, the events and the faults. -/
theorem completeRead_shape (d : Disturb) (s : State) :
    ∃ g e f, completeRead d s = { s with path := { s.path with lastGrant := g }, ev := e, flt := f } := by
  cases ha : nextRead s with
  | none => exact ⟨s.path.lastGrant, s.ev, s.flt, by simp only [completeRead, ha]⟩
  | some a =>
    cases he : s.ins.newest a with
    | some x => exact ⟨s.path.lastGrant, s.ev, s.flt, by rw [completeRead_queued d ha he]⟩
    | none =>
      cases hp : parityError (s.store.answer a d) with
      | true => exact ⟨_, _, _, completeRead_bad ha he hp⟩
      | false => exact ⟨_, _, s.flt, completeRead_good ha he hp⟩

section
variable (d : Disturb) (s : State)

@[simp] theorem completeRead_store : (completeRead d s).store = s.store := by
  obtain ⟨g, e, f, h⟩ := completeRead_shape d s; rw [h]
@[simp] theorem completeRead_areaSel : (completeRead d s).path.areaSel = s.path.areaSel := by
  obtain ⟨g, e, f, h⟩ := completeRead_shape d s; rw [h]
@[simp] theorem completeRead_ins : (completeRead d s).ins = s.ins := by
  obtain ⟨g, e, f, h⟩ := completeRead_shape d s; rw [h]
@[simp] theorem completeRead_cmd : (completeRead d s).cmd = s.cmd := by
  obtain ⟨g, e, f, h⟩ := completeRead_shape d s; rw [h]
@[simp] theorem completeRead_cap : (completeRead d s).cap = s.cap := by
  obtain ⟨g, e, f, h⟩ := completeRead_shape d s; rw [h]
@[simp] theorem completeRead_dir : (completeRead d s).dir = s.dir := by
  obtain ⟨g, e, f, h⟩ := completeRead_shape d s; rw [h]
@[simp] theorem completeRead_route : (completeRead d s).route = s.route := by
  obtain ⟨g, e, f, h⟩ := completeRead_shape d s; rw [h]
@[simp] theorem completeRead_poll : (completeRead d s).poll = s.poll := by
  obtain ⟨g, e, f, h⟩ := completeRead_shape d s; rw [h]
@[simp] theorem completeRead_tamper : (completeRead d s).tamper = s.tamper := by
  obtain ⟨g, e, f, h⟩ := completeRead_shape d s; rw [h]
@[simp] theorem completeRead_sm : (completeRead d s).sm = s.sm := by
  obtain ⟨g, e, f, h⟩ := completeRead_shape d s; rw [h]
@[simp] theorem completeRead_up : (completeRead d s).up = s.up := by
  obtain ⟨g, e, f, h⟩ := completeRead_shape d s; rw [h]

end

/-- A read handed over with an error has been answered by the store, and the error is latched. -/
theorem completeRead_storeError {s : State} {d : Disturb} (h : (readResult s d).2 = true) :
    (completeRead d s).flt.storeError = true := by
  cases ha : nextRead s with
  | none => exact absurd h (by simp [readResult, ha])
  | some a =>
    cases he : s.ins.newest a with
    | some x =>
      rw [readResult_queued d ha he] at h
      exact nomatch h
    | none =>
      rw [readResult_stored d ha he] at h
      rw [completeRead_bad ha he h]
      rfl

/-! ### The route number (R38) -/

theorem exec_routeNumberRead {d : Disturb} {s : State} (hr : Awake s) (hready : readReady s = true) (hscan : s.sm.scan = .done)
    (hl : s.route.load = some .number) : exec (.routeNumberRead d) s = .next (finish s (takeNumber d s)) :=
  event_taken hr (by simp [hready, hscan, hl])

theorem refuseOpen_completeRead (status : Byte) (n : Half) (d : Disturb) (s : State) :
    refuseOpen status n (completeRead d s) =
      respond status [0xFFFFFFFF#32, 0, n.setWidth 32, 0]
        { completeRead d s with route := { s.route with load := none } } := by
  rw [refuseOpen, loadResults, place_zero, num_zero, completeRead_route]
  rfl

theorem takeNumber_error {d : Disturb} {s : State} (he : (readResult s d).2 = true) :
    takeNumber d s = refuseOpen 0x40#8 (bits (readResult s d).1 0 16) (completeRead d s) := if_pos he

theorem takeNumber_zero {d : Disturb} {s : State} (he : (readResult s d).2 = false)
    (h0 : bits (readResult s d).1 0 16 = (0 : Half)) :
    takeNumber d s = refuseOpen 0x22#8 (bits (readResult s d).1 0 16) (completeRead d s) := by
  unfold takeNumber
  dsimp only
  rw [if_neg (by simp [he]), if_pos h0]
  rfl

theorem takeNumber_known {d : Disturb} {s : State} (he : (readResult s d).2 = false)
    (h0 : bits (readResult s d).1 0 16 ≠ (0 : Half)) (hk : ∃ e ∈ s.sm.roster, e.route = bits (readResult s d).1 0 16) :
    takeNumber d s = refuseOpen 0x23#8 (bits (readResult s d).1 0 16) (completeRead d s) := by
  unfold takeNumber
  dsimp only
  rw [if_neg (by simp [he]), if_neg h0, if_pos (by simpa using hk)]
  rfl

theorem takeNumber_full {d : Disturb} {s : State} (he : (readResult s d).2 = false)
    (h0 : bits (readResult s d).1 0 16 ≠ (0 : Half)) (hk : ∀ e ∈ s.sm.roster, e.route ≠ bits (readResult s d).1 0 16)
    (hfull : 16 ≤ s.sm.roster.length) :
    takeNumber d s = refuseOpen 0x24#8 (bits (readResult s d).1 0 16) (completeRead d s) := by
  unfold takeNumber
  dsimp only
  rw [if_neg (by simp [he]), if_neg h0, if_neg (by simpa using hk), if_pos (show Config.rosterPlaces ≤ s.sm.roster.length from hfull)]
  rfl

theorem takeNumber_enters {d : Disturb} {s : State} (he : (readResult s d).2 = false)
    (h0 : bits (readResult s d).1 0 16 ≠ (0 : Half)) (hk : ∀ e ∈ s.sm.roster, e.route ≠ bits (readResult s d).1 0 16)
    (hroom : s.sm.roster.length < 16) :
    takeNumber d s = enterLoading (bits (readResult s d).1 0 16) (completeRead d s) := by
  unfold takeNumber
  dsimp only
  rw [if_neg (by simp [he]), if_neg h0, if_neg (by simpa using hk), if_neg (show ¬Config.rosterPlaces ≤ s.sm.roster.length from Nat.not_le.mpr hroom)]

/-- Settles O48: the route number passes its four checks or ends the command. -/
theorem routeNumberDecidesTheLoad : Obligations.RouteNumberDecidesTheLoad := by
  intro d n s base hr hready hscan hl hn hbase
  subst hn hbase
  rw [exec_routeNumberRead hr hready hscan hl]
  refine ⟨fun he => ?_, fun he h0 => ?_, fun he h0 hk => ?_, fun he h0 hk hfull => ?_, fun he h0 hk hroom => ?_⟩
  · rw [takeNumber_error he, refuseOpen_completeRead]
  · rw [takeNumber_zero he h0, refuseOpen_completeRead, h0]
    rfl
  · rw [takeNumber_known he h0 hk, refuseOpen_completeRead]
  · rw [takeNumber_full he h0 hk hfull, refuseOpen_completeRead]
  · rw [takeNumber_enters he h0 hk hroom]
    refine ⟨_, rfl, rfl, rfl, ?_, rfl, rfl, rfl, rfl, rfl, rfl, rfl, rfl, ?_, ?_, fun a => ?_⟩
    · simp [enterLoading]
    · simp [enterLoading]
    · simp [enterLoading]
    · simp [ByteKept, enterLoading]

/-! ### Verdicts that are not accepted (R81) -/

theorem finalVerdict_unmarked {b : Burst} {code : Byte} {flags : Word} {index : Half} {s : State} (h : b.mark = false) :
    finalVerdict b code flags index s = s := if_neg (by simp [h])

theorem finalVerdict_marked {b : Burst} {code : Byte} {flags : Word} {index : Half} {s : State} (h : b.mark = true) :
    finalVerdict b code flags index s =
      { s with
        cap := { s.cap with slots := setD CapSlot.clear s.cap.slots b.slot { s.capSlot b.slot with unread := true } }
        ins :=
          { s.ins with
            outbox :=
              s.ins.outbox ++
                [(.captureUnit, .word (captureAddr s.path.areaSel b.slot 15)
                  (code.setWidth 32 ||| flags ||| (index.setWidth 32 <<< 16)) false)] } } := by
  rw [finalVerdict, if_pos h, verdictWord, place_zero]
  rfl

theorem refuseBurst_eq (b : Burst) (code : Byte) (s : State) :
    refuseBurst b code s = finalVerdict b code (flag b.overrun 8) 0xFFFF#16 s := by rw [refuseBurst, burstFlags_eq]; rfl

/-! ### A failed load (R44, R49) -/

/-- The verdict write of a held burst that leaves with NO_ROUTE. -/
def noRouteWrite (sel : BitVec 3) (b : Burst) : Producer × QWrite :=
  (.captureUnit, .word (captureAddr sel b.slot 15) (0xFFFF0024#32 ||| flag b.overrun 8) false)

/-- Each burst of `l` leaves with NO_ROUTE. -/
def refuseAll (l : List Burst) (s : State) : State := l.foldl (fun t b => refuseBurst b vNoRoute t) s

theorem flushDeferred_eq (s : State) :
    flushDeferred s = refuseAll s.cap.deferred { s with cap := { s.cap with deferred := [] } } := rfl

theorem refuseAll_frame (l : List Burst) (s : State) : Frame [.capSlots, .given] s (refuseAll l s) :=
  .foldl (fun t b => refuseBurst_frame b _ t) l s

theorem noRoute_word (o : Bool) :
    (vNoRoute.setWidth 32 : Word) ||| flag o 8 ||| ((0xFFFF#16).setWidth 32 <<< 16) = 0xFFFF0024#32 ||| flag o 8 := by
  cases o <;> decide

theorem refuseBurst_ins (b : Burst) (s : State) :
    (refuseBurst b vNoRoute s).ins =
      { s.ins with outbox := s.ins.outbox ++ if b.mark then [noRouteWrite s.path.areaSel b] else [] } := by
  rw [refuseBurst_eq]
  cases hm : b.mark with
  | false => rw [finalVerdict_unmarked hm, if_neg Bool.false_ne_true, List.append_nil]
  | true => rw [finalVerdict_marked hm, noRoute_word, if_pos rfl]; rfl

theorem refuseAll_ins (l : List Burst) (s : State) :
    (refuseAll l s).ins =
      { s.ins with outbox := s.ins.outbox ++ (l.filter fun b => b.mark).map (noRouteWrite s.path.areaSel) } := by
  induction l generalizing s with
  | nil => simp [refuseAll]
  | cons b l ih =>
    have harea : (refuseBurst b vNoRoute s).path.areaSel = s.path.areaSel :=
      ((refuseBurst_frame b vNoRoute s) .bus (by decide)).2.1
    have htail := ih (refuseBurst b vNoRoute s)
    rw [refuseBurst_ins, harea] at htail
    refine htail.trans ?_
    cases hm : b.mark <;> simp [hm]

theorem capSlot_refuseBurst (b : Burst) {s : State} (hc : canonical CapSlot.clear s.cap.slots = true) (k : Nat) :
    (refuseBurst b vNoRoute s).capSlot k =
      { s.capSlot k with unread := (s.capSlot k).unread || (b.mark && decide (b.slot = k)) } := by
  rw [refuseBurst_eq]
  cases hm : b.mark with
  | false => rw [finalVerdict_unmarked hm, Bool.false_and, Bool.or_false]
  | true =>
    rw [finalVerdict_marked hm]
    by_cases hk : b.slot = k
    · subst hk
      refine (getD_setD_same _ _ _ _ hc).trans ?_
      simp
    · refine (getD_setD_other _ _ _ (Ne.symm hk)).trans ?_
      simp only [hk, decide_false, Bool.and_false, Bool.or_false]
      rfl

theorem canonical_refuseBurst (b : Burst) {s : State} (hc : canonical CapSlot.clear s.cap.slots = true) :
    canonical CapSlot.clear (refuseBurst b vNoRoute s).cap.slots = true := by
  rw [refuseBurst_eq]
  cases hm : b.mark with
  | false => rwa [finalVerdict_unmarked hm]
  | true =>
    rw [finalVerdict_marked hm]
    exact canonical_setD _ _ _ _ hc

theorem capSlot_refuseAll (l : List Burst) (k : Nat) : ∀ {s : State}, canonical CapSlot.clear s.cap.slots = true →
    (refuseAll l s).capSlot k =
      { s.capSlot k with unread := (s.capSlot k).unread || l.any fun b => b.mark && decide (b.slot = k) } := by
  induction l with
  | nil =>
    intro s _
    rw [List.any_nil, Bool.or_false]
    rfl
  | cons b l ih =>
    intro s hc
    have htail := ih (canonical_refuseBurst b hc)
    rw [capSlot_refuseBurst b hc] at htail
    rw [List.any_cons, ← Bool.or_assoc]
    exact htail

/-- The state of a failed load before its held bursts leave. -/
def unloaded (s : State) : State :=
  { s with
    dir := []
    sm := { s.sm with roster := s.sm.roster.filter fun e => !e.isOpen }
    route := { s.route with state := .noRoute, number := 0, load := none }
    cap := { s.cap with deferred := [] } }

theorem failLoad_eq (status : Byte) (at_ detail : Word) (n : Half) (s : State) :
    failLoad status at_ detail n s =
      respond status [at_, detail, n.setWidth 32, BitVec.ofNat 32 s.cap.deferred.length]
        (refuseAll s.cap.deferred (unloaded s)) := by
  rw [failLoad, loadResults, place_zero, num_zero, flushDeferred_eq]
  rfl

theorem failLoad_undone (status : Byte) (at_ detail : Word) (n : Half) (s : State) :
    LoadUndone s (failLoad status at_ detail n s) status at_ detail n := by
  rw [failLoad_eq]
  have hf := refuseAll_frame s.cap.deferred (unloaded s)
  obtain ⟨hstate, hload⟩ := hf .load (by decide)
  obtain ⟨hnumber, hparams, hsegs, _, hactive, hstaged, _⟩ := hf .route (by decide)
  obtain ⟨hjudge, hdeferred⟩ := hf .capLists (by decide)
  have hdir : (refuseAll s.cap.deferred (unloaded s)).dir = [] := hf .dir (by decide)
  have hunjudged := (hf .capCounts (by decide)).2.2.2.1
  have hroster := (hf .rosters (by decide)).1
  have hcmd : (refuseAll s.cap.deferred (unloaded s)).cmd = s.cmd := hf .cmd (by decide)
  refine ⟨hstate, hnumber, hload, hdir, hactive, hstaged, hsegs, hparams, hunjudged,
    fun hc k => capSlot_refuseAll s.cap.deferred k (s := unloaded s) hc, hroster, hdeferred, hjudge, ?_, ?_⟩
  · have hins := refuseAll_ins s.cap.deferred (unloaded s)
    show { (refuseAll s.cap.deferred (unloaded s)).ins with
      outbox := (refuseAll s.cap.deferred (unloaded s)).ins.outbox ++ [(Producer.commandUnit, QWrite.respond)] } = _
    rw [hins]
    rfl
  · show ((refuseAll s.cap.deferred (unloaded s)).cmd.running.map fun x => _) = _
    rw [hcmd]

theorem failLoad_storeError {status : Byte} {at_ detail : Word} {n : Half} {s : State} (h : s.flt.storeError = true) :
    (failLoad status at_ detail n s).flt.storeError = true := by
  rw [failLoad_eq]
  exact ((refuseAll_frame s.cap.deferred (unloaded s)) .flt (by decide)).1.trans h

/-- What a load undoes does not depend on the directory and the faults before. -/
theorem LoadUndone.of_completeRead {d : Disturb} {dir : List Meter} {s u : State} {status : Byte} {at_ detail : Word} {n : Half}
    (h : LoadUndone { completeRead d s with dir := dir } u status at_ detail n) : LoadUndone s u status at_ detail n := by
  simpa [LoadUndone, AnswersWith, State.capSlot] using h

theorem failLoad_completeRead (d : Disturb) (status : Byte) (at_ detail : Word) (n : Half) (s : State) :
    LoadUndone s (failLoad status at_ detail n (completeRead d s)) status at_ detail n :=
  .of_completeRead (d := d) (dir := (completeRead d s).dir) (failLoad_undone _ _ _ _ _)

end Sys2Proof.Machine
end


section
/-! The load reads the header and the entries of the image (R40 to R44). -/
namespace Sys2Proof.Machine

/-! ### Header words (R40) -/

theorem exec_headerRead {d : Disturb} {n : Half} {ws : List Word} {crc : Word} {s : State} (hr : Awake s)
    (hready : readReady s = true) (hscan : s.sm.scan = .done) (hl : s.route.load = some (.header n ws crc)) :
    exec (.headerRead d) s = .next (finish s (takeHeader d n ws crc s)) := by
  refine (event_taken hr ?_).trans ?_
  · simp [hready, hscan, loadInHeader, hl]
  · simp only [headerStep, hl]

theorem takeHeader_error {d : Disturb} {n : Half} {ws : List Word} {crc : Word} {s : State} (he : (readResult s d).2 = true) :
    takeHeader d n ws crc s = failLoad 0x40#8 0xFFFFFFFF#32 0 n (completeRead d s) := if_pos he

theorem takeHeader_goesOn {d : Disturb} {n : Half} {ws : List Word} {crc : Word} {s : State} (he : (readResult s d).2 = false)
    (hlen : ws.length < 15) :
    takeHeader d n ws crc s =
      { completeRead d s with
        route := { s.route with load := some (.header n (ws ++ [(readResult s d).1]) (crc32Word crc (readResult s d).1)) } } := by
  unfold takeHeader
  dsimp only
  rw [if_neg (by simp [he]), if_pos hlen, completeRead_route]

theorem takeHeader_good {d : Disturb} {n : Half} {ws : List Word} {crc : Word} {s : State} (he : (readResult s d).2 = false)
    (hlen : ws.length = 15) (hg : headerGood (ws ++ [(readResult s d).1]) n = true) :
    takeHeader d n ws crc s =
      { completeRead d s with route := { s.route with load := some (.entry n (ws ++ [(readResult s d).1]) 0 [] crc) } } := by
  unfold takeHeader
  dsimp only
  rw [if_neg (by simp [he]), if_neg (by omega), if_pos hg, completeRead_route]

theorem takeHeader_bad {d : Disturb} {n : Half} {ws : List Word} {crc : Word} {s : State} (he : (readResult s d).2 = false)
    (hlen : ws.length = 15) (hg : ¬headerGood (ws ++ [(readResult s d).1]) n = true) :
    takeHeader d n ws crc s = failLoad 0x22#8 0xFFFFFFFF#32 0 n (completeRead d s) := by
  unfold takeHeader
  dsimp only
  rw [if_neg (by simp [he]), if_neg (by omega), if_neg hg]
  rfl

theorem between_iff (lo x hi : Nat) : between lo x hi = true ↔ lo ≤ x ∧ x ≤ hi := by simp [between]

theorem headerGood_iff (h : List Word) (n : Half) : headerGood h n = true ↔ HeaderInRange h n := by
  simp only [headerGood, HeaderInRange, Bool.and_eq_true, between_iff, floorInRange_iff, beq_iff_eq, Nat.zero_le, true_and,
    and_assoc]
  rfl

/-! ### Entry words (R41) -/

theorem exec_entryRead {d : Disturb} {n : Half} {h ws : List Word} {i : Nat} {crc : Word} {s : State} (hr : Awake s)
    (hready : readReady s = true) (hscan : s.sm.scan = .done) (hl : s.route.load = some (.entry n h i ws crc)) :
    exec (.entryRead d) s = .next (finish s (takeEntry d n h i ws crc s)) := by
  refine (event_taken hr ?_).trans ?_
  · simp [hready, hscan, loadInEntries, hl]
  · simp only [entryStep, hl]

theorem takeEntry_error {d : Disturb} {n : Half} {h ws : List Word} {i : Nat} {crc : Word} {s : State}
    (he : (readResult s d).2 = true) :
    takeEntry d n h i ws crc s = failLoad 0x40#8 (BitVec.ofNat 32 i) 0 n (completeRead d s) := by
  rw [← num_zero]
  exact if_pos he

theorem takeEntry_goesOn {d : Disturb} {n : Half} {h ws : List Word} {i : Nat} {crc : Word} {s : State}
    (he : (readResult s d).2 = false) (hlen : ws.length < 7) :
    takeEntry d n h i ws crc s =
      { completeRead d s with
        route := { s.route with load := some (.entry n h i (ws ++ [(readResult s d).1]) (crc32Word crc (readResult s d).1)) } } := by
  unfold takeEntry
  dsimp only
  rw [if_neg (by simp [he]), if_pos hlen, completeRead_route]

theorem takeEntry_last {d : Disturb} {n : Half} {h ws : List Word} {i : Nat} {crc w : Word} {s : State}
    (he : readResult s d = (w, false)) (hlen : ws.length = 7) :
    takeEntry d n h i ws crc s = checkEntry n h i (ws ++ [w]) (crc32Word crc w) (completeRead d s) := by
  unfold takeEntry
  dsimp only
  rw [he, if_neg Bool.false_ne_true, if_neg (by omega)]

section
variable {n : Half} {h ws : List Word} {i : Nat} {crc : Word} {s : State}

theorem checkEntry_segment (hseg : (bits (h.getD 2 0) 16 16 : Half).toNat ≤ (bits (ws.getD 2 0) 0 16 : Half).toNat) :
    checkEntry n h i ws crc s = failLoad 0x22#8 (BitVec.ofNat 32 i) 0 n s := by
  rw [← num_zero]
  exact if_pos hseg

theorem checkEntry_path (hseg : (bits (ws.getD 2 0) 0 16 : Half).toNat < (bits (h.getD 2 0) 16 16 : Half).toNat)
    (hp : storedPath ws = none) : checkEntry n h i ws crc s = failLoad 0x22#8 (BitVec.ofNat 32 i) 0 n s := by
  rw [checkEntry, hp, ← num_zero]
  exact if_neg (Nat.not_le.mpr hseg)

theorem checkEntry_known {stored : Option RelayPath} {j : Nat}
    (hseg : (bits (ws.getD 2 0) 0 16 : Half).toNat < (bits (h.getD 2 0) 16 16 : Half).toNat)
    (hp : storedPath ws = some stored) (hm : findMeter s.dir (ws.getD 0 0) = some j) :
    checkEntry n h i ws crc s = failLoad 0x21#8 (BitVec.ofNat 32 i) (BitVec.ofNat 32 j) n s := by
  rw [checkEntry, hp, ← num_zero, ← num_zero]
  dsimp only
  rw [hm]
  exact if_neg (Nat.not_le.mpr hseg)

theorem newMeter_entryImage (stored : Option RelayPath) : newMeter (entryImage ws stored) = loadedMeter ws stored := rfl

theorem checkEntry_goesOn {stored : Option RelayPath}
    (hseg : (bits (ws.getD 2 0) 0 16 : Half).toNat < (bits (h.getD 2 0) 16 16 : Half).toNat)
    (hp : storedPath ws = some stored) (hm : findMeter s.dir (ws.getD 0 0) = none)
    (hi : i + 1 < (bits (h.getD 2 0) 0 16 : Half).toNat) :
    checkEntry n h i ws crc s =
      { s with
        dir := s.dir ++ [loadedMeter ws stored]
        route := { s.route with load := some (.entry n h (i + 1) [] crc) } } := by
  rw [checkEntry, hp]
  dsimp only
  rw [hm]
  exact (if_neg (Nat.not_le.mpr hseg)).trans (if_pos hi)

theorem checkEntry_closes {stored : Option RelayPath}
    (hseg : (bits (ws.getD 2 0) 0 16 : Half).toNat < (bits (h.getD 2 0) 16 16 : Half).toNat)
    (hp : storedPath ws = some stored) (hm : findMeter s.dir (ws.getD 0 0) = none)
    (hi : i + 1 = (bits (h.getD 2 0) 0 16 : Half).toNat) :
    checkEntry n h i ws crc s = closeLoad n h crc { s with dir := s.dir ++ [loadedMeter ws stored] } := by
  rw [checkEntry, hp]
  dsimp only
  rw [hm]
  exact (if_neg (Nat.not_le.mpr hseg)).trans (if_neg (by rw [hi]; exact lt_irrefl _))

end

theorem closeLoad_mismatch {n : Half} {h : List Word} {crc : Word} {s : State} (hc : crc32Final crc ≠ h.getD 15 0) :
    closeLoad n h crc s = failLoad 0x20#8 0xFFFFFFFF#32 (crc32Final crc) n s := if_neg hc

theorem closeLoad_matches {n : Half} {h : List Word} {crc : Word} {s : State} (hc : crc32Final crc = h.getD 15 0) :
    closeLoad n h crc s = succeedLoad n h s := if_pos hc

/-! ### The stored path and the segments of a new route -/

theorem storedPath_direct {ws : List Word} (h : bits (ws.getD 1 0) 16 8 = 0xFF#8) : storedPath ws = some none := if_pos h

theorem relayPath_eq {hops : Byte} (h : hops.toNat ≤ 2) (a b : Word) :
    relayPath hops a b = ⟨hops, if hops = 0 then 0 else a, if hops = 2 then b else 0⟩ := by
  have h1 : 1 ≤ hops.toNat ↔ ¬hops = 0 := by bv_omega
  have h2 : 2 ≤ hops.toNat ↔ hops = 2 := by bv_omega
  simp only [relayPath, h1, h2, ite_not]

theorem storedPath_hops {ws : List Word} (h : (bits (ws.getD 1 0) 16 8 : Byte).toNat ≤ 2) :
    storedPath ws = some (some (relayPath (bits (ws.getD 1 0) 16 8) (ws.getD 6 0) (ws.getD 7 0))) := by
  unfold storedPath
  dsimp only
  rw [if_neg fun hff => ?_, if_pos h]
  rw [hff] at h
  exact absurd h (by decide)

theorem storedPath_none {ws : List Word} (h : bits (ws.getD 1 0) 16 8 ≠ 0xFF#8)
    (h2 : 2 < (bits (ws.getD 1 0) 16 8 : Byte).toNat) : storedPath ws = none :=
  (if_neg h).trans (if_neg (Nat.not_le.mpr h2))

theorem newSegments_length (count : Nat) (dir : List Meter) : (newSegments count dir).length = count := by
  simp [newSegments]

theorem newSegments_waiting (count : Nat) (dir : List Meter) : ∀ g ∈ newSegments count dir, g.state = .waiting := by
  simp [newSegments]

theorem newSegments_unresolved {count : Nat} {dir : List Meter} {g : Nat} {x : Segment} (h : (newSegments count dir)[g]? = some x) :
    x.unresolved = dir.countP fun m => decide (m.img.segment = g) := by
  rw [newSegments, List.getElem?_map] at h
  obtain ⟨j, hj, rfl⟩ := Option.map_eq_some_iff.mp h
  obtain ⟨_, rfl⟩ := List.getElem?_eq_some_iff.mp hj
  simp

/-- Settles O50: one lemma for each branch of the two read steps, of the entry's checks and of the load's end. -/
theorem loadReadsTheImage : Obligations.LoadReadsTheImage := by
  refine ⟨fun d s hr hready hscan => ⟨fun n ws crc hl hlen he => ?_, fun n h i ws crc hl hlen he => ?_,
      fun n ws crc hl he => ?_, fun n h i ws crc hl he => ?_, fun n ws crc hdr hl hlen he hhdr => ⟨fun hg => ?_, fun hg => ?_⟩⟩,
    fun d n h ws full i crc reg w s hr hready hscan hl hlen he hfull hreg => ?_,
    fun ws hops hh => ⟨fun hff => ?_, fun h2 => ?_, fun hff h2 => ?_⟩⟩
  · rw [exec_headerRead hr hready hscan hl, takeHeader_goesOn he hlen]
  · rw [exec_entryRead hr hready hscan hl, takeEntry_goesOn he hlen]
  · rw [exec_headerRead hr hready hscan hl, takeHeader_error he]
    exact ⟨_, rfl, failLoad_completeRead _ _ _ _ _ _, failLoad_storeError (completeRead_storeError he)⟩
  · rw [exec_entryRead hr hready hscan hl, takeEntry_error he]
    exact ⟨_, rfl, failLoad_completeRead _ _ _ _ _ _, failLoad_storeError (completeRead_storeError he)⟩
  · subst hhdr
    rw [exec_headerRead hr hready hscan hl, takeHeader_good he hlen ((headerGood_iff _ _).mpr hg)]
  · subst hhdr
    rw [exec_headerRead hr hready hscan hl, takeHeader_bad he hlen fun hgood => hg ((headerGood_iff _ _).mp hgood)]
    exact ⟨_, rfl, failLoad_completeRead _ _ _ _ _ _⟩
  · rw [exec_entryRead hr hready hscan hl, takeEntry_last he hlen, ← hfull, ← hreg]
    refine ⟨fun hseg => ?_, fun hseg hp => ?_, fun stored j hseg hp hm => ?_,
      fun stored hseg hp hm => ⟨fun hi => ?_, fun hi hc => ?_, fun hi hc => ?_⟩⟩
    · rw [checkEntry_segment hseg]
      exact ⟨_, rfl, failLoad_completeRead _ _ _ _ _ _⟩
    · rw [checkEntry_path hseg hp]
      exact ⟨_, rfl, failLoad_completeRead _ _ _ _ _ _⟩
    · rw [checkEntry_known hseg hp (by rwa [completeRead_dir])]
      exact ⟨_, rfl, failLoad_completeRead _ _ _ _ _ _⟩
    · rw [checkEntry_goesOn hseg hp (by rwa [completeRead_dir]) hi, completeRead_dir, completeRead_route]
    · rw [checkEntry_closes hseg hp (by rwa [completeRead_dir]) hi, closeLoad_mismatch hc]
      exact ⟨_, rfl, .of_completeRead (failLoad_undone _ _ _ _ _)⟩
    · rw [checkEntry_closes hseg hp (by rwa [completeRead_dir]) hi, closeLoad_matches hc]
      refine ⟨_, rfl, rfl, ?_, ?_, rfl, rfl, newSegments_length _ _, newSegments_waiting _ _,
        fun g x hx => newSegments_unresolved hx, rfl, rfl, rfl, rfl, rfl, rfl, ?_, ?_, ?_, ?_, ?_⟩
      · simp [succeedLoad]
      · simp [succeedLoad]
      · simp [succeedLoad]
      · simp [succeedLoad]
      · simp [succeedLoad]
      · simp [succeedLoad, respond, respondBehind, give]
      · simp [succeedLoad, AnswersWith, respond, respondBehind, place_zero, num_zero, stOk, headerParams]
  · exact storedPath_direct (hh ▸ hff)
  · rw [storedPath_hops (hh ▸ h2), relayPath_eq (hh ▸ h2), hh]
  · exact storedPath_none (hh ▸ hff) (hh ▸ h2)

end Sys2Proof.Machine
end


section
/-! The Upload Unit's build: one word of a record at a time, and how a build ends (R169 to R172). -/
namespace Sys2Proof.Machine

/-- A move of slots changes the slot state table alone. -/
theorem moveSlots_shape (items : List BatchItem) (st : RecState) (s : State) :
    ∃ l, moveSlots items st s = { s with sm := { s.sm with slots := l } } := by
  unfold moveSlots
  induction items generalizing s with
  | nil => exact ⟨s.sm.slots, rfl⟩
  | cons it items ih =>
    obtain ⟨l, hl⟩ := ih (modRow it.slot (fun r => { r with state := st }) s)
    have hrow : ∃ l', modRow it.slot (fun r => { r with state := st }) s = { s with sm := { s.sm with slots := l' } } := by
      unfold modRow
      split
      · exact ⟨_, rfl⟩
      · exact ⟨s.sm.slots, rfl⟩
    obtain ⟨l', hl'⟩ := hrow
    refine ⟨l, hl.trans ?_⟩
    rw [hl']

/-- R29: an Upload Unit command's answer: its response stands behind the writes given. -/
theorem respondUpload_ins (status : Byte) (results : List Word) (s : State) :
    (respondUpload status results s).ins = { s.ins with outbox := s.ins.outbox ++ [(.uploadUnit, .respond)] } := rfl

theorem respondUpload_answers (status : Byte) (results : List Word) {s t : State} (h : t.cmd = s.cmd) :
    AnswersWith s (respondUpload status results t) status results := by
  show (t.cmd.running.map fun x => _) = _
  rw [h]

/-! ### One word of the build -/

theorem exec_buildRead {d : Disturb} {b : Batch} {it : BatchItem} {s : State} (hr : Awake s) (hready : readReady s = true)
    (hscan : s.sm.scan = .done) (hl : s.route.load = none) (hb : s.up.batch = some b) (hst : b.state = .building)
    (hit : b.items[b.place]? = some it) :
    exec (.buildRead d) s =
      .next (finish s
        (if (readResult s d).2 then failBuild b it.slot (completeRead d s)
          else buildWord b it (readResult s d).1 (completeRead d s))) := by
  refine (event_taken hr ?_).trans ?_
  · simp [hready, hscan, hl, building, hb, hst]
  · simp only [buildStep, hb, hit]

/-- The two writes of a manifest entry. -/
theorem giveEntry_eq (j slot : Nat) (crc : Word) (s : State) :
    giveEntry j slot crc s =
      giving
        [(.uploadUnit, .word (manifestEntryAddr s.path.areaSel j 0) (BitVec.ofNat 32 slot) false),
          (.uploadUnit, .word (manifestEntryAddr s.path.areaSel j 1) crc false)] s := by
  rw [giveEntry, giveData_eq, giveData_eq, give_eq, give_eq, giving_giving, num_zero]
  rfl

section
variable {b : Batch} {it : BatchItem} {w : Word} {s : State}

theorem buildWord_goesOn (h : b.word < 15) :
    buildWord b it w s =
      { s with up := { s.up with batch := some { b with word := b.word + 1, crc := crc32Word b.crc w } } } := if_pos h

/-- The items with the check value of the record just read. -/
def checkedItems (b : Batch) (w : Word) : List BatchItem :=
  b.items.modify b.place fun x => { x with crc := crc32Final (crc32Word b.crc w) }

theorem length_checkedItems (b : Batch) (w : Word) : (checkedItems b w).length = b.items.length := List.length_modify _ _ _

theorem buildWord_next (h : 15 ≤ b.word) (hp : b.place + 1 < b.items.length) :
    buildWord b it w s =
      { giveEntry b.place it.slot (crc32Final (crc32Word b.crc w)) s with
        up :=
          { s.up with
            batch := some { b with items := checkedItems b w, place := b.place + 1, word := 1, crc := crc32Init } } } := by
  have hlen : b.place + 1 < (checkedItems b w).length := by rwa [length_checkedItems]
  exact (if_neg (Nat.not_lt.mpr h)).trans (if_pos hlen)

theorem buildWord_last (h : 15 ≤ b.word) (hp : b.place + 1 = b.items.length) :
    buildWord b it w s =
      endBuild b (checkedItems b w) (giveEntry b.place it.slot (crc32Final (crc32Word b.crc w)) s) := by
  have hlen : ¬b.place + 1 < (checkedItems b w).length := by
    rw [length_checkedItems, hp]
    exact lt_irrefl _
  exact (if_neg (Nat.not_lt.mpr h)).trans (if_neg hlen)

end

/-! ### The end of the build -/

theorem digestOf_eq (items : List BatchItem) :
    digestOf items =
      crc32Final ((items.flatMap fun x => [BitVec.ofNat 32 x.slot, x.crc]).foldl crc32Word 0xFFFFFFFF#32) := by
  simp only [digestOf, crc32, num_zero]
  rfl

/-- The state in which a build of `items` leaves its batch. -/
def builtState (items : List BatchItem) : BatchState := if allFetched items then .fetched else .opened

theorem builtState_of {items : List BatchItem} {st : BatchState}
    (h : ((∀ x ∈ items, x.mask = 0xFFFF#16) ∧ st = .fetched) ∨ ((∃ x ∈ items, x.mask ≠ 0xFFFF#16) ∧ st = .opened)) :
    builtState items = st := by
  rcases h with ⟨hall, rfl⟩ | ⟨hex, rfl⟩
  · exact if_pos ((allFetched_iff items).mpr hall)
  · refine if_neg fun hall => ?_
    obtain ⟨x, hx, hm⟩ := hex
    exact hm ((allFetched_iff items).mp hall x hx)

theorem manifestCode_builtState (items : List BatchItem) :
    manifestCode (builtState items) = if builtState items = .fetched then 3 else 2 := by
  unfold builtState
  split <;> rfl

theorem endBuild_eq (b : Batch) (items : List BatchItem) (s : State) :
    endBuild b items s =
      respondUpload 0x00#8
        [b.id.setWidth 32, BitVec.ofNat 32 items.length, digestOf items, seqOf items.head?, seqOf items.getLast?,
          BitVec.ofNat 32 b.left]
        (giving (manifestGiven s.path.areaSel b.id (manifestCode (builtState items)) items.length (digestOf items))
          { s with
            up := { s.up with batch := some { b with state := builtState items, items := items, digest := digestOf items } } }) := by
  unfold endBuild
  dsimp only
  rw [giveManifest_eq, place_zero, num_zero, num_zero]
  rfl

theorem failBuild_eq (b : Batch) (slot : Nat) {s : State} {l : List (Nat × SlotRow)}
    (hl : moveSlots b.items .stored s = { s with sm := { s.sm with slots := l } }) :
    failBuild b slot s =
      respondUpload 0x40#8
        [b.id.setWidth 32, BitVec.ofNat 32 b.items.length, BitVec.ofNat 32 b.place, BitVec.ofNat 32 slot]
        (giving (manifestGiven s.path.areaSel b.id 5 b.items.length 0)
          { s with sm := { s.sm with slots := l }, up := { s.up with batch := none } }) := by
  unfold failBuild
  dsimp only
  rw [hl, giveManifest_eq, place_zero, num_zero, num_zero, num_zero]
  rfl

theorem rowOf_of_slots {s t : State} (h : t.sm.slots = s.sm.slots) (k : Nat) : t.rowOf k = s.rowOf k := by
  rw [State.rowOf, State.rowOf, h]

/-- The rows after the slots of `items` have moved, in any state with that slot table. -/
theorem rowOf_moved {items : List BatchItem} {st : RecState} {s u : State}
    (hu : u.sm.slots = (moveSlots items st s).sm.slots) :
    (∀ x ∈ items, ∀ r, s.rowOf x.slot = some r → u.rowOf x.slot = some { r with state := st }) ∧
      ∀ k, (∀ x ∈ items, x.slot ≠ k) → u.rowOf k = s.rowOf k := by
  refine ⟨fun x hx r hr => ?_, fun k hk => ?_⟩
  · rw [rowOf_of_slots hu, rowOf_moveSlots, if_pos (List.mem_map_of_mem hx), hr, Option.map_some]
  · rw [rowOf_of_slots hu, rowOf_moveSlots, if_neg]
    rintro hmem
    obtain ⟨x, hx, rfl⟩ := List.mem_map.mp hmem
    exact hk x hx rfl

/-- Settles O52: one lemma for each branch of the build's step. -/
theorem buildTakesOneWordAtATime : Obligations.BuildTakesOneWordAtATime := by
  intro d b it w value s entry hr hready hscan hl hb hst hit hvalue hentry
  subst hvalue hentry
  rw [exec_buildRead hr hready hscan hl hb hst hit]
  refine ⟨fun he hw => ?_, fun he hw hp => ?_, fun items digest first last st he hw hp hitems hdigest hfirst hlast hfin => ?_,
    fun he => ?_⟩
  · rw [he, if_neg Bool.false_ne_true, buildWord_goesOn hw, completeRead_up]
  · rw [he, if_neg Bool.false_ne_true, buildWord_next hw hp, giveEntry_eq, completeRead_up, completeRead_areaSel, giving,
      completeRead_ins]
    rfl
  · have hitems' : checkedItems b w = items := hitems.symm
    rw [he, if_neg Bool.false_ne_true, buildWord_last hw hp, giveEntry_eq, completeRead_areaSel, hitems', endBuild_eq,
      manifestCode_builtState, builtState_of hfin, digestOf_eq, ← hdigest, hfirst, hlast]
    refine ⟨_, rfl, ?_, ?_, respondUpload_answers _ _ ?_, ?_, ?_⟩
    · simp [respondUpload, giving]
    · simp [respondUpload_ins, giving]
    · simp [giving]
    · simp [respondUpload, giving]
    · simp [respondUpload, giving]
  · obtain ⟨l, hmoved⟩ := moveSlots_shape b.items .stored (completeRead d s)
    rw [if_pos he, failBuild_eq b it.slot hmoved, completeRead_areaSel]
    refine ⟨_, rfl, ?_, completeRead_storeError he, fun x hx r hrow => ?_, ?_, respondUpload_answers _ _ ?_, ?_, ?_, ?_⟩
    · simp [respondUpload, giving]
    · refine (rowOf_moved (items := b.items) (s := completeRead d s) ?_).1 x hx r ?_
      · rw [hmoved]
        rfl
      · rwa [rowOf_of_slots (s := s) (by rw [completeRead_sm])]
    · simp [respondUpload_ins, giving]
    · simp [giving]
    · simp [respondUpload, giving]
    · simp [respondUpload, giving]
    · simp [respondUpload, giving]

end Sys2Proof.Machine
end


section
/-! Sequence order (R141), and the counts of the slot state table (R131). -/
namespace Sys2Proof.Machine

/-! ### Sequence order (R141) -/

theorem seqBefore_iff (a b : Nat × Word) : seqBefore a b = true ↔ a.2 < b.2 ∨ (a.2 = b.2 ∧ a.1 < b.1) := by simp [seqBefore]

theorem seqBefore_trans {a b c : Nat × Word} (h : seqBefore a b = true) (h' : seqBefore b c = true) : seqBefore a c = true := by
  rw [seqBefore_iff] at *
  bv_omega

/-- Two slots are in sequence order one way or the other. -/
theorem seqBefore_of_not {a b : Nat × Word} (hne : a.1 ≠ b.1) (h : ¬seqBefore a b = true) : seqBefore b a = true := by
  rw [seqBefore_iff] at *
  bv_omega

theorem insertSeq_sorted {x : Nat × Word} {ys : List (Nat × Word)} (hne : ∀ y ∈ ys, x.1 ≠ y.1)
    (h : ys.Pairwise fun a b => seqBefore a b = true) : (insertSeq x ys).Pairwise fun a b => seqBefore a b = true := by
  induction ys with
  | nil => exact List.pairwise_singleton _ _
  | cons y ys ih =>
    obtain ⟨hy, hys⟩ := List.pairwise_cons.mp h
    unfold insertSeq
    split_ifs with hxy
    · exact List.pairwise_cons.mpr ⟨fun z hz => (List.mem_cons.mp hz).elim (fun hzy => hzy ▸ hxy)
        fun hz => seqBefore_trans hxy (hy z hz), h⟩
    · refine List.pairwise_cons.mpr ⟨fun z hz => ?_, ih (fun z hz => hne z (List.mem_cons_of_mem _ hz)) hys⟩
      rcases List.mem_cons.mp ((insertSeq_perm x ys).mem_iff.mp hz) with rfl | hz
      · exact seqBefore_of_not (hne y List.mem_cons_self) hxy
      · exact hy z hz

theorem foldl_insertSeq_sorted (xs : List (Nat × Word)) : ∀ {ys : List (Nat × Word)},
    ((xs ++ ys).map fun e => e.1).Nodup → (ys.Pairwise fun a b => seqBefore a b = true) →
    (xs.foldl (fun ys x => insertSeq x ys) ys).Pairwise fun a b => seqBefore a b = true := by
  induction xs with
  | nil => exact fun _ h => h
  | cons x xs ih =>
    intro ys hnd h
    rw [List.foldl_cons]
    have hperm : (xs ++ insertSeq x ys).Perm (x :: xs ++ ys) :=
      ((insertSeq_perm x ys).append_left xs).trans List.perm_middle
    refine ih ((hperm.map _).nodup_iff.mpr hnd) (insertSeq_sorted (fun y hy he => ?_) h)
    have hx := (List.nodup_cons.mp hnd).1
    exact hx (List.mem_map.mpr ⟨y, List.mem_append_right _ hy, he.symm⟩)

theorem sortSeq_sorted {xs : List (Nat × Word)} (h : (xs.map fun e => e.1).Nodup) :
    (sortSeq xs).Pairwise fun a b => seqBefore a b = true :=
  foldl_insertSeq_sorted xs (by simpa using h) .nil

theorem mem_sortSeq {xs : List (Nat × Word)} {x : Nat × Word} : x ∈ sortSeq xs ↔ x ∈ xs := (sortSeq_perm xs).mem_iff

/-- The slots of a table in its form, in sequence order. -/
theorem sortSeq_slotsWhere_sorted (p : RecRow → Bool) {rows : List (Nat × SlotRow)} (h : risingFrom 0 rows = true) :
    (sortSeq (slotsWhere p rows)).Pairwise fun a b => seqBefore a b = true :=
  sortSeq_sorted ((slotsWhere_keys_sublist p rows).nodup (rising_keys_nodup h))

/-! ### Counts of the table (R131) -/

/-- A row that replaces another changes each count by what the two rows count for. -/
theorem countP_insertAt {p : Nat × SlotRow → Bool} {m : List (Nat × SlotRow)} {lo k : Nat} {old new : SlotRow}
    (hr : risingFrom lo m = true) (h : lookup m k = some old) :
    (insertAt m k new).countP p + (if p (k, old) then 1 else 0) = m.countP p + if p (k, new) then 1 else 0 := by
  induction m generalizing lo with
  | nil => exact nomatch h
  | cons e m ih =>
    obtain ⟨j, row⟩ := e
    obtain ⟨hlo, htail⟩ : lo ≤ j ∧ risingFrom (j + 1) m = true := by simpa [risingFrom] using hr
    unfold lookup at h
    by_cases hj : j = k
    · subst hj
      obtain rfl := Option.some.inj ((if_pos rfl).symm.trans h)
      rw [insertAt, if_neg (lt_irrefl _), if_pos rfl, List.countP_cons, List.countP_cons]
      omega
    · rw [if_neg hj] at h
      have hlt : ¬k < j := fun hkj => by
        rw [lookup_none_below m htail (by omega)] at h
        exact nomatch h
      rw [insertAt, if_neg hlt, if_neg (Ne.symm hj), List.countP_cons, List.countP_cons]
      have := ih htail h
      omega

theorem rising_modRow (k : Nat) (f : RecRow → RecRow) {s : State} (h : risingFrom 0 s.sm.slots = true) :
    risingFrom 0 (modRow k f s).sm.slots = true := by
  unfold modRow
  split
  · exact risingFrom_insertAt _ _ _ h (Nat.zero_le _)
  · exact h

theorem storedCount_modRow {k : Nat} {r : RecRow} {s : State} (hr : risingFrom 0 s.sm.slots = true) (hrow : s.rowOf k = some r)
    (hst : r.state = .stored) :
    (modRow k (fun r => { r with state := .inBatch }) s).storedCount + 1 = s.storedCount := by
  have hcount := countP_insertAt (p := fun e => e.2.isIn .stored) (new := .record { r with state := .inBatch }) hr
    (rowOf_eq_some_iff.mp hrow)
  simp only [SlotRow.isIn, hst, decide_true, if_true, reduceCtorEq, decide_false, Bool.false_eq_true, if_false] at hcount
  rw [modRow, hrow]
  exact hcount

/-- Each STORED record that enters a batch lowers the stored count by 1. -/
theorem storedCount_moveSlots (items : List BatchItem) : ∀ {s : State}, risingFrom 0 s.sm.slots = true →
    (items.map fun it => it.slot).Nodup → (∀ it ∈ items, ∃ r, s.rowOf it.slot = some r ∧ r.state = .stored) →
    (moveSlots items .inBatch s).storedCount + items.length = s.storedCount := by
  induction items with
  | nil => exact fun _ _ _ => rfl
  | cons it items ih =>
    intro s hr hnd hst
    obtain ⟨hfresh, hnd⟩ := List.nodup_cons.mp hnd
    obtain ⟨r, hrow, hrs⟩ := hst it List.mem_cons_self
    have hone := storedCount_modRow hr hrow hrs
    have hrest := ih (s := modRow it.slot (fun r => { r with state := .inBatch }) s) (rising_modRow _ _ hr) hnd fun x hx => by
      obtain ⟨r', hrow', hrs'⟩ := hst x (List.mem_cons_of_mem _ hx)
      have hne : x.slot ≠ it.slot := fun he => hfresh (List.mem_map.mpr ⟨x, hx, he⟩)
      exact ⟨r', by rw [rowOf_modRow, if_neg hne, hrow'], hrs'⟩
    rw [List.length_cons]
    have hstep : moveSlots (it :: items) .inBatch s =
        moveSlots items .inBatch (modRow it.slot (fun r => { r with state := .inBatch }) s) := rfl
    rw [hstep]
    omega

end Sys2Proof.Machine
end


section
/-! UPLOAD_BEGIN and UPLOAD_ABANDON on an accepted header (R167, R168, R179). -/
namespace Sys2Proof.Machine

/-! ### UPLOAD_BEGIN (R167, R168) -/

theorem exec_uploadBegin_accepted {h : CmdHeader} {s : State} (ha : Accepted .uploadBegin h s) :
    exec (.uploadBegin h) s = .next (finish s (uploadBeginWork (hostParam s 1) (begun .uploadBegin h s))) := by
  have hrun := exec_hostInstr_accepted ha
  simp only [runCommand, param_commit, Nat.reduceLT] at hrun
  exact hrun

section
variable {max : Word} {s : State}

theorem uploadBeginWork_batch (hb : s.up.batch ≠ none) : uploadBeginWork max s = respond 0x14#8 [] s :=
  if_pos (Option.isSome_iff_ne_none.mpr hb)

theorem uploadBeginWork_faulted (hb : s.up.batch = none) (hf : s.faultLatched = true) :
    uploadBeginWork max s = respond 0x15#8 [] s := (if_neg (by simp [hb])).trans (if_pos hf)

theorem uploadBeginWork_badParam (hb : s.up.batch = none) (hf : s.faultLatched = false) (hm : max = 0 ∨ 512 < max.toNat) :
    uploadBeginWork max s = respond 0x13#8 [] s :=
  ((if_neg (by simp [hb])).trans (if_neg (by simp [hf]))).trans (if_pos hm)

theorem uploadBeginWork_nothing (hb : s.up.batch = none) (hf : s.faultLatched = false) (h0 : max ≠ 0) (hm : max.toNat ≤ 512)
    (hst : s.storedCount = 0) : uploadBeginWork max s = respond 0x01#8 [] s :=
  (((if_neg (by simp [hb])).trans (if_neg (by simp [hf]))).trans
    (if_neg fun h => h.elim h0 (Nat.not_lt.mpr hm))).trans (if_pos hst)

theorem uploadBeginWork_accepts (hb : s.up.batch = none) (hf : s.faultLatched = false) (h0 : max ≠ 0) (hm : max.toNat ≤ 512)
    (hst : s.storedCount ≠ 0) : uploadBeginWork max s = acceptBegin max.toNat s :=
  (((if_neg (by simp [hb])).trans (if_neg (by simp [hf]))).trans
    (if_neg fun h => h.elim h0 (Nat.not_lt.mpr hm))).trans (if_neg hst)

end

/-- The batch that UPLOAD_BEGIN creates from `items`. -/
def newBatch (id : Half) (items : List BatchItem) (stored : Nat) : Batch :=
  ⟨.building, id, items, 0, 0, 1, crc32Init, stored - items.length⟩

theorem acceptBegin_eq {n : Nat} {s : State} {l : List (Nat × SlotRow)} (hr : risingFrom 0 s.sm.slots = true)
    (hl : moveSlots (selectRecords n s) .inBatch s = { s with sm := { s.sm with slots := l } }) :
    acceptBegin n s =
      giving (manifestGiven s.path.areaSel s.up.nextId 1 (selectRecords n s).length 0)
        { s with
          sm := { s.sm with slots := l }
          up :=
            { batch := some (newBatch s.up.nextId (selectRecords n s) s.storedCount)
              nextId := if s.up.nextId = 0xFFFF#16 then 1 else s.up.nextId + 1, lastId := s.up.nextId } } := by
  obtain ⟨hnd, hst⟩ := selectRecords_slots (n := n) hr
  have hleft := storedCount_moveSlots (selectRecords n s) hr hnd fun it hit => hst _ (List.mem_map_of_mem hit)
  have hleft' : (moveSlots (selectRecords n s) .inBatch s).storedCount = s.storedCount - (selectRecords n s).length := by omega
  unfold acceptBegin
  dsimp only
  rw [giveManifest_eq, hleft', hl]
  rfl

/-! ### Which records are selected (R168) -/

theorem mem_slotsWhere_stored {s : State} (h : risingFrom 0 s.sm.slots = true) {x : Nat × Word} :
    x ∈ slotsWhere (fun r => decide (r.state = .stored)) s.sm.slots ↔
      ∃ r, s.rowOf x.1 = some r ∧ r.state = .stored ∧ r.seq = x.2 := by
  rw [mem_slotsWhere]
  constructor
  · rintro ⟨r, hmem, hst, hseq⟩
    exact ⟨r, rowOf_eq_some_iff.mpr (lookup_of_mem h hmem), of_decide_eq_true hst, hseq.symm⟩
  · rintro ⟨r, hrow, hst, hseq⟩
    exact ⟨r, mem_of_lookup (rowOf_eq_some_iff.mp hrow), decide_eq_true hst, hseq.symm⟩

/-- The item that selection makes of a slot and its sequence number. -/
theorem mem_selectRecords {n : Nat} {s : State} {it : BatchItem} :
    it ∈ selectRecords n s ↔
      ∃ e ∈ (sortSeq (slotsWhere (fun r => decide (r.state = .stored)) s.sm.slots)).take n, it = ⟨e.1, e.2, 0, 0⟩ := by
  rw [selectRecords, List.mem_map]
  simp only [eq_comm]

theorem selectRecords_rows {n : Nat} {s : State} (h : risingFrom 0 s.sm.slots = true) :
    ∀ it ∈ selectRecords n s, it.crc = 0 ∧ it.mask = 0 ∧
      ∃ r, s.rowOf it.slot = some r ∧ r.state = .stored ∧ r.seq = it.seq := by
  intro it hit
  obtain ⟨e, he, rfl⟩ := mem_selectRecords.mp hit
  exact ⟨rfl, rfl, (mem_slotsWhere_stored h).mp (mem_sortSeq.mp (List.mem_of_mem_take he))⟩

theorem selectRecords_sorted {n : Nat} {s : State} (h : risingFrom 0 s.sm.slots = true) :
    (selectRecords n s).Pairwise fun x y => x.seq < y.seq ∨ (x.seq = y.seq ∧ x.slot < y.slot) := by
  rw [selectRecords, List.pairwise_map]
  exact ((sortSeq_slotsWhere_sorted _ h).sublist (List.take_sublist _ _)).imp fun hb => (seqBefore_iff _ _).mp hb

/-- A STORED record that is not selected comes behind all that are. -/
theorem selectRecords_lowest {n : Nat} {s : State} (h : risingFrom 0 s.sm.slots = true) {k : Nat} {r : RecRow}
    (hrow : s.rowOf k = some r) (hst : r.state = .stored) (hnot : ∀ it ∈ selectRecords n s, it.slot ≠ k) :
    ∀ it ∈ selectRecords n s, it.seq < r.seq ∨ (it.seq = r.seq ∧ it.slot < k) := by
  intro it hit
  obtain ⟨e, he, rfl⟩ := mem_selectRecords.mp hit
  have hsorted := sortSeq_slotsWhere_sorted (fun r => decide (r.state = .stored)) h
  have hmem : (k, r.seq) ∈ sortSeq (slotsWhere (fun r => decide (r.state = .stored)) s.sm.slots) :=
    mem_sortSeq.mpr ((mem_slotsWhere_stored h).mpr ⟨r, hrow, hst, rfl⟩)
  rw [← List.take_append_drop n (sortSeq _)] at hsorted hmem
  rcases List.mem_append.mp hmem with htaken | hleft
  · exact absurd rfl (hnot _ (mem_selectRecords.mpr ⟨_, htaken, rfl⟩))
  · exact (seqBefore_iff _ _).mp ((List.pairwise_append.mp hsorted).2.2 e he _ hleft)

theorem rowOf_selected {items : List BatchItem} {s u : State} (hu : u.sm.slots = (moveSlots items .inBatch s).sm.slots) {k : Nat}
    {r : RecRow} (hrow : s.rowOf k = some r) :
    u.rowOf k = some (if items.any (fun it => decide (it.slot = k)) then { r with state := .inBatch } else r) := by
  obtain ⟨hmoved, hkept⟩ := rowOf_moved hu
  by_cases hk : ∃ it ∈ items, it.slot = k
  · obtain ⟨it, hit, rfl⟩ := hk
    rw [if_pos (List.any_eq_true.mpr ⟨it, hit, decide_eq_true rfl⟩)]
    exact hmoved it hit r hrow
  · rw [if_neg (by simpa using hk), ← hrow]
    exact hkept k fun it hit he => hk ⟨it, hit, he⟩

/-- Settles O35: the refusals in their order; the selection is the front of the STORED records in sequence order. -/
theorem uploadBeginSelectsTheOldestRecords : Obligations.UploadBeginSelectsTheOldestRecords := by
  intro h s ha
  rw [exec_uploadBegin_accepted ha]
  refine ⟨fun hb => ?_, fun hb hf => ?_, fun hb hf hm => ?_, fun hb hf h0 hm hst => ?_, fun hb hf h0 hm hst hr => ?_⟩
  · rw [uploadBeginWork_batch (s := begun .uploadBegin h s) hb]
  · rw [uploadBeginWork_faulted (s := begun .uploadBegin h s) hb hf]
  · rw [uploadBeginWork_badParam (s := begun .uploadBegin h s) hb hf hm]
  · rw [uploadBeginWork_nothing (s := begun .uploadBegin h s) hb hf h0 hm hst]
  · obtain ⟨l, hl⟩ := moveSlots_shape (selectRecords (hostParam s 1).toNat s) .inBatch (begun .uploadBegin h s)
    have hslots : l = (moveSlots (selectRecords (hostParam s 1).toNat s) .inBatch (begun .uploadBegin h s)).sm.slots := by rw [hl]
    rw [uploadBeginWork_accepts (s := begun .uploadBegin h s) hb hf h0 hm hst, acceptBegin_eq (s := begun .uploadBegin h s) hr hl]
    exact ⟨_, _, rfl, rfl, rfl, rfl, rfl, rfl, length_selectRecords _ _, rfl, rfl, rfl, selectRecords_rows hr,
      selectRecords_sorted hr, fun k r hrow hrs hnot => selectRecords_lowest hr hrow hrs hnot,
      fun k r hrow => rowOf_selected (s := begun .uploadBegin h s) hslots hrow, rfl, rfl, rfl, rfl, rfl⟩

/-! ### UPLOAD_ABANDON (R179) -/

theorem exec_uploadAbandon_accepted {h : CmdHeader} {s : State} (ha : Accepted .uploadAbandon h s) :
    exec (.uploadAbandon h) s = .next (finish s (uploadAbandonWork (hostParam s 1) (begun .uploadAbandon h s))) := by
  have hrun := exec_hostInstr_accepted ha
  simp only [runCommand, param_commit, Nat.reduceLT] at hrun
  exact hrun

theorem batchIdIs_iff (b : Batch) (id : Word) : batchIdIs b id = true ↔ id = b.id.setWidth 32 := by
  rw [batchIdIs, place_zero, beq_iff_eq]

theorem uploadAbandonWork_none {id : Word} {s : State} (hb : s.up.batch = none) :
    uploadAbandonWork id s = respond 0x14#8 [] s := by
  rw [uploadAbandonWork, hb]
  rfl

theorem uploadAbandonWork_badParam {id : Word} {b : Batch} {s : State} (hb : s.up.batch = some b)
    (hid : id ≠ b.id.setWidth 32) : uploadAbandonWork id s = respond 0x13#8 [] s := by
  have hno : batchIdIs b id = false := Bool.eq_false_of_not_eq_true fun h => hid ((batchIdIs_iff b id).mp h)
  rw [uploadAbandonWork, hb]
  dsimp only
  rw [hno, if_pos (by rfl)]
  rfl

theorem uploadAbandonWork_abandons {id : Word} {b : Batch} {s : State} {l : List (Nat × SlotRow)} (hb : s.up.batch = some b)
    (hid : id = b.id.setWidth 32) (hl : moveSlots b.items .stored s = { s with sm := { s.sm with slots := l } }) :
    uploadAbandonWork id s =
      respondUpload 0x00#8
        [b.id.setWidth 32, BitVec.ofNat 32 b.items.length, BitVec.ofNat 32 (batchStateCode b.state)]
        (giving (manifestGiven s.path.areaSel b.id 5 b.items.length b.digest)
          { s with sm := { s.sm with slots := l }, up := { s.up with batch := none } }) := by
  rw [uploadAbandonWork, hb]
  dsimp only
  rw [(batchIdIs_iff b id).mpr hid, if_neg (by simp), hl, giveManifest_eq, place_zero, num_zero, num_zero]
  rfl

/-- Settles O37: the batch's slots return to STORED, and nothing else changes but the batch and the writes given. -/
theorem uploadAbandonReturnsTheRecords : Obligations.UploadAbandonReturnsTheRecords := by
  intro h s ha
  rw [exec_uploadAbandon_accepted ha]
  refine ⟨fun hb => ?_, fun b hb hid => ?_, fun b hb hid => ?_⟩
  · rw [uploadAbandonWork_none (s := begun .uploadAbandon h s) hb]
  · rw [uploadAbandonWork_badParam (s := begun .uploadAbandon h s) hb hid]
  · obtain ⟨l, hl⟩ := moveSlots_shape b.items .stored (begun .uploadAbandon h s)
    have hslots : l = (moveSlots b.items .stored (begun .uploadAbandon h s)).sm.slots := by rw [hl]
    rw [uploadAbandonWork_abandons (s := begun .uploadAbandon h s) hb hid hl]
    obtain ⟨hmoved, hkept⟩ := rowOf_moved (s := begun .uploadAbandon h s)
      (u := { begun .uploadAbandon h s with sm := { s.sm with slots := l } }) hslots
    refine ⟨_, rfl, rfl, fun it hit r hrow => hmoved it hit r hrow, fun k hk => hkept k hk, rfl, rfl, rfl, rfl, rfl, ?_,
      respondUpload_answers _ _ rfl⟩
    rw [respondUpload_ins]
    rfl

end Sys2Proof.Machine
end


section
/-! UPLOAD_ACK on an accepted header: what the release of a fetched batch does (R175, R176, R178). -/
namespace Sys2Proof.Machine

/-! ### The released slots -/

/-- The slot state table without the slots of `items`. -/
def erased (items : List BatchItem) (m : List (Nat × SlotRow)) : List (Nat × SlotRow) :=
  items.foldl (fun m it => eraseAt m it.slot) m

theorem lookup_erased (items : List BatchItem) (k : Nat) : ∀ {m : List (Nat × SlotRow)}, risingFrom 0 m = true →
    lookup (erased items m) k = if k ∈ items.map (fun it => it.slot) then none else lookup m k := by
  unfold erased
  induction items with
  | nil => exact fun _ => rfl
  | cons it items ih =>
    intro m h
    rw [List.foldl_cons, ih (risingFrom_eraseAt m it.slot h), List.map_cons]
    simp only [List.mem_cons]
    by_cases hk : k = it.slot
    · subst hk
      rw [lookup_eraseAt_same m _ h]
      simp
    · rw [lookup_eraseAt_other m hk]
      simp only [hk, false_or]

theorem slotState_congr {s t : State} {k : Nat} (hscan : t.sm.scan = s.sm.scan)
    (hl : lookup t.sm.slots k = lookup s.sm.slots k) : t.slotState k = s.slotState k := by
  rw [State.slotState, State.slotState, State.scanDone, State.scanDone, hscan, hl]

theorem slotState_free {s : State} {k : Nat} (hscan : s.scanDone = true) (hl : lookup s.sm.slots k = none) :
    s.slotState k = .free := by
  rw [State.slotState, if_pos hscan, hl]

theorem rowOf_congr {s t : State} {k : Nat} (hl : lookup t.sm.slots k = lookup s.sm.slots k) : t.rowOf k = s.rowOf k := by
  rw [State.rowOf, State.rowOf, hl]

/-! ### The lowered roster (R144) -/

/-- A roster entry after a record of route `r` has gone. -/
def lowered (r : Half) (e : RosterEntry) : RosterEntry := if e.route = r then { e with count := e.count - 1 } else e

theorem lowered_same {r : Half} {e : RosterEntry} (h : e.route = r) : lowered r e = { e with count := e.count - 1 } := if_pos h

theorem lowered_other {r : Half} {e : RosterEntry} (h : e.route ≠ r) : lowered r e = e := if_neg h

@[simp] theorem lowered_route (r : Half) (e : RosterEntry) : (lowered r e).route = e.route := by
  unfold lowered; split <;> rfl

@[simp] theorem lowered_isOpen (r : Half) (e : RosterEntry) : (lowered r e).isOpen = e.isOpen := by
  unfold lowered; split <;> rfl

theorem mem_rosterDown {r : Half} {ro : List RosterEntry} {e : RosterEntry} :
    e ∈ rosterDown r ro ↔ (∃ x ∈ ro, lowered r x = e) ∧ (e.route = r → e.count = 0 → e.isOpen = true) := by
  unfold rosterDown
  rw [List.mem_filter, List.mem_map]
  refine and_congr Iff.rfl ?_
  cases e.isOpen <;> simp [imp_iff_not_or]

/-- The roster after records of the routes `rs` have gone. -/
def rosterAfter (rs : List Half) (ro : List RosterEntry) : List RosterEntry := rs.foldl (fun ro r => rosterDown r ro) ro

theorem mem_rosterAfter (rs : List Half) : ∀ {ro : List RosterEntry} {e : RosterEntry}, e ∈ ro →
    (e.isOpen = true ∨ (rs.countP fun r => decide (r = e.route)) < e.count) →
    { e with count := e.count - rs.countP fun r => decide (r = e.route) } ∈ rosterAfter rs ro := by
  unfold rosterAfter
  induction rs with
  | nil => exact fun h _ => h
  | cons r rs ih =>
    intro ro e he hroom
    rw [List.foldl_cons]
    rw [List.countP_cons] at hroom ⊢
    by_cases hr : r = e.route
    · subst hr
      rw [decide_eq_true rfl, if_pos rfl] at hroom ⊢
      have hkept : ({ e with count := e.count - 1 } : RosterEntry) ∈ rosterDown e.route ro :=
        mem_rosterDown.mpr ⟨⟨e, he, lowered_same rfl⟩, fun _ (h0 : e.count - 1 = 0) => hroom.elim id fun h => by omega⟩
      have hrest := ih hkept (hroom.imp id fun h => by
        show (rs.countP fun r => decide (r = e.route)) < e.count - 1
        omega)
      rw [show e.count - ((rs.countP fun r => decide (r = e.route)) + 1) =
        e.count - 1 - rs.countP fun r => decide (r = e.route) by omega]
      exact hrest
    · rw [decide_eq_false hr, if_neg Bool.false_ne_true, Nat.add_zero] at hroom ⊢
      exact ih (mem_rosterDown.mpr ⟨⟨e, he, lowered_other (Ne.symm hr)⟩, fun h => absurd h.symm hr⟩) hroom

/-- No entry without records is left of the routes `rs`, but an open route's. -/
def NoEmpty (rs : List Half) (ro : List RosterEntry) : Prop :=
  ∀ e ∈ ro, e.isOpen = false → e.route ∈ rs → e.count ≠ 0

theorem noEmpty_rosterDown {r : Half} {rs : List Half} {ro : List RosterEntry} (h : NoEmpty rs ro) :
    NoEmpty (r :: rs) (rosterDown r ro) := by
  intro e he hopen hmem h0
  obtain ⟨⟨x, hx, rfl⟩, hkept⟩ := mem_rosterDown.mp he
  by_cases hr : (lowered r x).route = r
  · rw [hkept hr h0] at hopen
    exact nomatch hopen
  · have hin : (lowered r x).route ∈ rs := (List.mem_cons.mp hmem).resolve_left hr
    rw [lowered_route] at hr
    rw [lowered_other hr] at hopen hin h0
    exact h x hx hopen hin h0

theorem noEmpty_rosterAfter (rs : List Half) : ∀ {done : List Half} {ro : List RosterEntry}, NoEmpty done ro →
    NoEmpty (rs.reverse ++ done) (rosterAfter rs ro) := by
  unfold rosterAfter
  induction rs with
  | nil => exact fun h => h
  | cons r rs ih =>
    intro done ro h
    rw [List.reverse_cons, List.append_assoc]
    exact ih (noEmpty_rosterDown h)

theorem count_ne_zero_of_rosterAfter {rs : List Half} {ro : List RosterEntry} {e : RosterEntry} (he : e ∈ rosterAfter rs ro)
    (hopen : e.isOpen = false) (hr : e.route ∈ rs) : e.count ≠ 0 :=
  noEmpty_rosterAfter rs (done := []) (fun _ _ _ h => nomatch h) e he hopen (by simpa using hr)

/-! ### The release of the slots, one after another (R176) -/

/-- The route of the record in slot `k`, 0 when it holds none. -/
def heldRoute (s : State) (k : Nat) : Half := ((s.rowOf k).map fun r => r.route).getD 0

/-- The EMPTY header write of a released slot. -/
def emptyWrite (sel : BitVec 3) (it : BatchItem) : Producer × QWrite := (.uploadUnit, .word (recordAddr sel it.slot 0) 0 false)

/-- The Tamper List without the entries of the slots of `items`. -/
def tamperWithout (items : List BatchItem) (l : List TamperEntry) : List TamperEntry :=
  l.filter fun e => items.all fun it => decide (e.slot ≠ some it.slot)

theorem releaseSlot_eq (it : BatchItem) (s : State) :
    releaseSlot s it =
      giving [emptyWrite s.path.areaSel it]
        { s with
          sm := { s.sm with slots := eraseAt s.sm.slots it.slot, roster := rosterDown (heldRoute s it.slot) s.sm.roster }
          tamper := { s.tamper with list := s.tamper.list.filter fun e => decide (e.slot ≠ some it.slot) } } := by
  unfold releaseSlot heldRoute
  cases s.rowOf it.slot <;> rfl

theorem heldRoute_releaseSlot {it : BatchItem} {s : State} {k : Nat} (hk : k ≠ it.slot) :
    heldRoute (releaseSlot s it) k = heldRoute s k := by
  have hrow : (releaseSlot s it).rowOf k = s.rowOf k := rowOf_congr (lookup_eraseAt_other s.sm.slots hk)
  rw [heldRoute, heldRoute, hrow]

theorem tamperWithout_cons (it : BatchItem) (items : List BatchItem) (l : List TamperEntry) :
    tamperWithout items (l.filter fun e => decide (e.slot ≠ some it.slot)) = tamperWithout (it :: items) l := by
  simp only [tamperWithout, List.filter_filter, List.all_cons, Bool.and_comm]

theorem releaseSlots_eq (items : List BatchItem) : ∀ {s : State}, (items.map fun it => it.slot).Nodup →
    items.foldl releaseSlot s =
      giving (items.map (emptyWrite s.path.areaSel))
        { s with
          sm :=
            { s.sm with
              slots := erased items s.sm.slots
              roster := rosterAfter (items.map fun it => heldRoute s it.slot) s.sm.roster }
          tamper := { s.tamper with list := tamperWithout items s.tamper.list } } := by
  induction items with
  | nil =>
    intro s _
    simp [giving, erased, rosterAfter, tamperWithout]
  | cons it items ih =>
    intro s hnd
    obtain ⟨hfresh, hnd⟩ := List.nodup_cons.mp hnd
    have hroutes : (items.map fun x => heldRoute (releaseSlot s it) x.slot) = items.map fun x => heldRoute s x.slot :=
      List.map_congr_left fun x hx => heldRoute_releaseSlot fun he => hfresh (List.mem_map.mpr ⟨x, hx, he⟩)
    rw [List.foldl_cons, ih hnd, hroutes, releaseSlot_eq, ← tamperWithout_cons]
    simp [giving, erased, rosterAfter]

/-! ### UPLOAD_ACK (R175, R176, R178) -/

theorem exec_uploadAck_accepted {h : CmdHeader} {s : State} (ha : Accepted .uploadAck h s) :
    exec (.uploadAck h) s = .next (finish s (uploadAckWork (hostParam s 1) (hostParam s 2) (begun .uploadAck h s))) := by
  have hrun := exec_hostInstr_accepted ha
  simp only [runCommand, param_commit, Nat.reduceLT] at hrun
  exact hrun

section
variable {id digest : Word} {b : Batch} {s : State}

theorem uploadAckWork_none (hb : s.up.batch = none) : uploadAckWork id digest s = respond 0x14#8 [] s := by
  rw [uploadAckWork, hb]
  rfl

theorem uploadAckWork_badParam (hb : s.up.batch = some b) (hid : id ≠ b.id.setWidth 32) :
    uploadAckWork id digest s = respond 0x13#8 [b.id.setWidth 32, BitVec.ofNat 32 (batchStateCode b.state)] s := by
  have hno : batchIdIs b id = false := Bool.eq_false_of_not_eq_true fun h => hid ((batchIdIs_iff b id).mp h)
  rw [uploadAckWork, hb]
  dsimp only
  rw [hno, if_pos (by rfl), place_zero, num_zero]
  rfl

theorem uploadAckWork_notFetched (hb : s.up.batch = some b) (hid : id = b.id.setWidth 32) (hst : b.state ≠ .fetched) :
    uploadAckWork id digest s = respond 0x30#8 [b.id.setWidth 32, BitVec.ofNat 32 (batchStateCode b.state)] s := by
  rw [uploadAckWork, hb]
  dsimp only
  rw [(batchIdIs_iff b id).mpr hid, if_neg (by simp), if_pos hst, place_zero, num_zero]
  rfl

theorem uploadAckWork_digest (hb : s.up.batch = some b) (hid : id = b.id.setWidth 32) (hst : b.state = .fetched)
    (hd : digest ≠ b.digest) :
    uploadAckWork id digest s = respond 0x31#8 [b.id.setWidth 32, BitVec.ofNat 32 (batchStateCode b.state)] s := by
  rw [uploadAckWork, hb]
  dsimp only
  rw [(batchIdIs_iff b id).mpr hid, if_neg (by simp), if_neg (by simp [hst]), if_pos hd, place_zero, num_zero]
  rfl

theorem uploadAckWork_releases (hb : s.up.batch = some b) (hid : id = b.id.setWidth 32) (hst : b.state = .fetched)
    (hd : digest = b.digest) : uploadAckWork id digest s = releaseBatch b s := by
  rw [uploadAckWork, hb]
  dsimp only
  rw [(batchIdIs_iff b id).mpr hid, if_neg (by simp), if_neg (by simp [hst]), if_neg (by simp [hd])]

end

/-- The state in which the release has left slots, roster, Tamper List and batch. -/
def releasedState (b : Batch) (s : State) : State :=
  { s with
    sm :=
      { s.sm with
        slots := erased b.items s.sm.slots
        roster := rosterAfter (b.items.map fun it => heldRoute s it.slot) s.sm.roster }
    tamper := { s.tamper with list := tamperWithout b.items s.tamper.list }
    up := { s.up with batch := none } }

theorem releaseBatch_eq {b : Batch} {s : State} (hnd : (b.items.map fun it => it.slot).Nodup) :
    releaseBatch b s =
      respondUpload 0x00#8
        [b.id.setWidth 32, BitVec.ofNat 32 b.items.length,
          BitVec.ofNat 32 (s.tamper.list.length - (releasedState b s).tamper.list.length),
          BitVec.ofNat 32 (s.sm.roster.length - (releasedState b s).sm.roster.length),
          BitVec.ofNat 32 (releasedState b s).freeCount, BitVec.ofNat 32 s.sm.backlog.length,
          BitVec.ofNat 32 (releasedState b s).sm.roster.length]
        (giving (b.items.map (emptyWrite s.path.areaSel) ++ manifestGiven s.path.areaSel b.id 4 b.items.length b.digest)
          (releasedState b s)) := by
  unfold releaseBatch
  dsimp only
  rw [releaseSlots_eq b.items hnd, giveManifest_eq, place_zero, num_zero, num_zero, num_zero, num_zero, num_zero, num_zero,
    ← giving_giving]
  rfl

theorem countP_heldRoute {items : List BatchItem} {s : State} (h : ∀ it ∈ items, (s.rowOf it.slot).isSome = true) (r : Half) :
    (items.map fun it => heldRoute s it.slot).countP (fun x => decide (x = r)) =
      items.countP fun it => decide ((s.rowOf it.slot).map (fun r => r.route) = some r) := by
  rw [List.countP_map]
  refine List.countP_congr fun it hit => ?_
  obtain ⟨row, hrow⟩ := Option.isSome_iff_exists.mp (h it hit)
  simp [heldRoute, hrow]

theorem mem_heldRoutes {items : List BatchItem} {s : State} {r : Half}
    (h : ∃ it ∈ items, (s.rowOf it.slot).map (fun r => r.route) = some r) : r ∈ items.map fun it => heldRoute s it.slot := by
  obtain ⟨it, hit, hr⟩ := h
  exact List.mem_map.mpr ⟨it, hit, by rw [heldRoute, hr, Option.getD_some]⟩

/-- Settles O36: the refusals in their order; the release is read off `releasedState` part by part. -/
theorem uploadAckReleasesTheFetchedBatch : Obligations.UploadAckReleasesTheFetchedBatch := by
  refine ⟨fun h s ha => ?_, fun h b s ha hb hst hid hd hr hnd => ?_⟩
  · rw [exec_uploadAck_accepted ha]
    refine ⟨fun hb => ?_, fun b hb hid => ?_, fun b hb hid hst => ?_, fun b hb hid hst hd => ?_⟩
    · rw [uploadAckWork_none (s := begun .uploadAck h s) hb]
    · rw [uploadAckWork_badParam (s := begun .uploadAck h s) hb hid]
    · rw [uploadAckWork_notFetched (s := begun .uploadAck h s) hb hid (by simp [hst]), hst]
      rfl
    · rw [uploadAckWork_digest (s := begun .uploadAck h s) hb hid hst hd, hst]
      rfl
  · rw [exec_uploadAck_accepted ha, uploadAckWork_releases (s := begun .uploadAck h s) hb hid hst hd, releaseBatch_eq hnd]
    have hlook := fun k => lookup_erased b.items k hr
    refine ⟨_, rfl, rfl, rfl, rfl, fun it hit => ?_, fun k hk => ?_, rfl, fun e n he hn hroom hrows => ?_,
      fun e he hopen hin => count_ne_zero_of_rosterAfter he hopen (mem_heldRoutes hin), ?_, rfl, rfl, rfl, rfl,
      respondUpload_answers _ _ rfl⟩
    · exact slotState_free ha.2.1 ((hlook it.slot).trans (if_pos (List.mem_map_of_mem hit)))
    · have hkept : lookup (erased b.items s.sm.slots) k = lookup s.sm.slots k := (hlook k).trans <| if_neg fun hmem => by
        obtain ⟨it, hit, rfl⟩ := List.mem_map.mp hmem
        exact hk it hit rfl
      exact ⟨slotState_congr rfl hkept, rowOf_congr hkept⟩
    · rw [hn, ← countP_heldRoute hrows]
      refine mem_rosterAfter _ he (hroom.imp id fun h => ?_)
      rwa [hn, ← countP_heldRoute hrows] at h
    · rw [respondUpload_ins, giving]
      simp only [List.append_assoc]
      rfl

end Sys2Proof.Machine
end


section
/-! The start-up scan: the finding of a slot, the end of the scan, and the rebuild of the Tamper List (R127, R149 to R152). -/
namespace Sys2Proof.Machine

/-! ### Valid headers (R132) -/

theorem kindOfCode_iff (c : Byte) (kind : Kind) : kindOfCode c = some kind ↔ c = BitVec.ofNat 8 (kindCode kind) := by
  constructor
  · intro h
    unfold kindOfCode at h
    split_ifs at h with h1 h2 h3 h4
    all_goals
      obtain rfl := Option.some.inj h
      assumption
  · rintro rfl
    cases kind <;> rfl

theorem validHeader_iff (w0 w1 w2 : Word) (kind : Kind) :
    validHeader w0 w1 w2 = some kind ↔
      bits w0 0 8 = 0xA5#8 ∧ bits w0 8 8 = BitVec.ofNat 8 (kindCode kind) ∧ bits w0 18 14 = 0#14 ∧ w1 ≠ 0 ∧
        bits w2 0 16 ≠ 0#16 := by
  rw [validHeader, Option.ite_none_right_eq_some, kindOfCode_iff]
  tauto

/-! ### The finding of a slot (R149, R150) -/

/-- The scan's findings, working roster and highest sequence number replaced. -/
def withFindings (fs : List (Nat × SlotRow)) (ro : List RosterEntry) (hi : Option Word) (s : State) : State :=
  { s with sm := { s.sm with findings := fs, workRoster := ro, highest := hi } }

theorem setFinding_eq (k : Nat) (r : SlotRow) (s : State) :
    setFinding k r s = withFindings (insertAt s.sm.findings k r) s.sm.workRoster s.sm.highest s := rfl

theorem higherSeq_eq {high : Option Word} {seq : Word} (h : seq ≠ 0) :
    higherSeq high seq = if high.getD 0 < seq then seq else high.getD 0 := by
  cases high with
  | some x => rfl
  | none =>
    have hpos : (0 : Word) < seq := by bv_omega
    rw [Option.getD_none, if_pos hpos]
    rfl

section
variable {k : Nat} {kind : Kind} {w0 w1 w2 : Word} {s : State}

theorem foundRecord_known (h : ∃ e ∈ s.sm.workRoster, e.route = bits w2 0 16) :
    foundRecord k kind w0 w1 w2 s =
      withFindings (insertAt s.sm.findings k (.record ⟨.stored, kind, w1, bits w2 0 16, w0.getLsbD 16, w0.getLsbD 17⟩))
        (rosterUp (bits w2 0 16) s.sm.workRoster) (some (higherSeq s.sm.highest w1)) s := by
  have hadmit : admitRoute (bits w2 0 16) s.sm.workRoster = some (rosterUp (bits w2 0 16) s.sm.workRoster) :=
    if_pos (by simpa using h)
  rw [foundRecord]
  dsimp only
  rw [hadmit]
  rfl

theorem foundRecord_new (h : ∀ e ∈ s.sm.workRoster, e.route ≠ bits w2 0 16) (hroom : s.sm.workRoster.length < 16) :
    foundRecord k kind w0 w1 w2 s =
      withFindings (insertAt s.sm.findings k (.record ⟨.stored, kind, w1, bits w2 0 16, w0.getLsbD 16, w0.getLsbD 17⟩))
        (s.sm.workRoster ++ [⟨bits w2 0 16, 1, false⟩]) (some (higherSeq s.sm.highest w1)) s := by
  have hadmit : admitRoute (bits w2 0 16) s.sm.workRoster = some (s.sm.workRoster ++ [⟨bits w2 0 16, 1, false⟩]) :=
    (if_neg (by simpa using h)).trans (if_pos hroom)
  rw [foundRecord]
  dsimp only
  rw [hadmit]
  rfl

theorem foundRecord_full (h : ∀ e ∈ s.sm.workRoster, e.route ≠ bits w2 0 16) (hfull : 16 ≤ s.sm.workRoster.length) :
    foundRecord k kind w0 w1 w2 s =
      withFindings (insertAt s.sm.findings k .quarantined) s.sm.workRoster (some (higherSeq s.sm.highest w1)) s := by
  have hadmit : admitRoute (bits w2 0 16) s.sm.workRoster = none :=
    (if_neg (by simpa using h)).trans (if_neg (Nat.not_lt.mpr hfull))
  rw [foundRecord]
  dsimp only
  rw [hadmit]
  rfl

theorem decideSlot_valid (h0 : w0 ≠ 0) (hv : validHeader w0 w1 w2 = some kind) :
    decideSlot k w0 w1 w2 s = foundRecord k kind w0 w1 w2 s := by
  rw [decideSlot, if_neg h0, hv]

theorem decideSlot_invalid (h0 : w0 ≠ 0) (hv : validHeader w0 w1 w2 = none) :
    decideSlot k w0 w1 w2 s = setFinding k .quarantined s := by
  rw [decideSlot, if_neg h0, hv]

end

/-- The last read of a slot makes the finding that `SlotDecided` describes. -/
theorem takeScanWord_decides {d : Disturb} {k : Nat} {ws : List Word} {s : State} {fs : List (Nat × SlotRow)}
    {ro : List RosterEntry} {hi : Option Word} (h : SlotDecided s k ws (readResult s d).1 (readResult s d).2 fs ro hi) :
    takeScanWord d k ws s = afterSlot k (withFindings fs ro hi (completeRead d s)) := by
  have hsm : (completeRead d s).sm = s.sm := completeRead_sm d s
  unfold takeScanWord
  dsimp only
  rcases h with ⟨he, rfl, rfl, rfl⟩ | ⟨he, w0, w1, rfl, h⟩
  · rw [if_pos he, setFinding_eq, hsm]
  · rw [if_neg (by simp [he])]
    dsimp only
    rcases h with ⟨h0, rfl, rfl, rfl⟩ | ⟨h0, hv, rfl, rfl, rfl⟩ | ⟨kind, n, h0, hv, rfl, rfl, h⟩
    · rw [decideSlot, if_pos h0, withFindings, ← hsm]
    · rw [decideSlot_invalid h0 hv, setFinding_eq, hsm]
    · have hseq : w1 ≠ 0 := ((validHeader_iff _ _ _ _).mp hv).2.2.2.1
      rw [decideSlot_valid h0 hv, ← higherSeq_eq hseq]
      rcases h with ⟨hk, rfl, rfl⟩ | ⟨hk, hroom, rfl, rfl⟩ | ⟨hk, hfull, rfl, rfl⟩
      · rw [foundRecord_known (by rwa [hsm]), hsm]
        rfl
      · rw [foundRecord_new (by rwa [hsm]) (by rwa [hsm]), hsm]
      · rw [foundRecord_full (by rwa [hsm]) (by rwa [hsm]), hsm]

theorem takeScanWord_goesOn {d : Disturb} {k : Nat} {ws : List Word} {s : State} (hlen : ws.length < 2)
    (he : (readResult s d).2 = false) :
    takeScanWord d k ws s =
      { completeRead d s with sm := { s.sm with scan := .slots k (ws ++ [(readResult s d).1]) } } := by
  unfold takeScanWord
  dsimp only
  rw [if_neg (by simp [he]), completeRead_sm]
  match ws, hlen with
  | [], _ => rfl
  | [_], _ => rfl

theorem exec_scanRead {d : Disturb} {k : Nat} {ws : List Word} {s : State} (hr : Awake s) (hready : readReady s = true)
    (hscan : s.sm.scan = .slots k ws) : exec (.scanRead d) s = .next (finish s (takeScanWord d k ws s)) := by
  refine (event_taken hr ?_).trans ?_
  · simp [hready, scanInSlots, hscan]
  · simp only [scanStep, hscan]

/-! ### The end of the scan (R143, R152) -/

theorem endScan_ended (s : State) : ScanEnded s (endScan s) := by
  unfold endScan
  dsimp only
  have hfree : ∀ t : State, t.sm = { s.sm with
      slots := s.sm.findings, roster := s.sm.workRoster, scan := .done, findings := [], workRoster := [], highest := none } →
      t.freeCount = 8192 - s.sm.findings.length := fun t ht => by
    rw [State.freeCount, State.scanDone, ht]
    rfl
  by_cases hlow : 8192 - s.sm.findings.length ≤ 256
  · rw [if_pos (by rw [hfree _ rfl]; exact hlow)]
    exact ⟨rfl, hfree _ rfl, (if_pos hlow).symm, rfl, rfl, rfl, rfl, rfl, rfl⟩
  · rw [if_neg (by rw [hfree _ rfl]; exact hlow)]
    exact ⟨rfl, hfree _ rfl, (if_neg hlow).symm, rfl, rfl, rfl, rfl, rfl, rfl⟩

theorem mem_rebuildList_iff {fs : List (Nat × SlotRow)} (h : risingFrom 0 fs = true) {j : Nat} :
    j ∈ rebuildList fs ↔ ∃ r, ToRebuild fs j r := by
  rw [rebuildList, List.mem_map]
  constructor
  · rintro ⟨x, hx, rfl⟩
    obtain ⟨r, hmem, hp, -⟩ := mem_slotsWhere.mp (mem_sortSeq.mp hx)
    obtain ⟨hlock, hack⟩ : r.locked = true ∧ r.acked = false := by simpa using hp
    exact ⟨r, lookup_of_mem h hmem, hlock, hack⟩
  · rintro ⟨r, hl, hlock, hack⟩
    exact ⟨(j, r.seq), mem_sortSeq.mpr (mem_slotsWhere.mpr ⟨r, mem_of_lookup hl, by simp [hlock, hack], rfl⟩), rfl⟩

theorem rebuildList_sorted {fs : List (Nat × SlotRow)} (h : risingFrom 0 fs = true) :
    (rebuildList fs).Pairwise fun x y =>
      ∀ rx ry, ToRebuild fs x rx → ToRebuild fs y ry → rx.seq < ry.seq ∨ (rx.seq = ry.seq ∧ x < y) := by
  have hseq : ∀ e ∈ sortSeq (slotsWhere (fun r => r.locked && !r.acked) fs), ∀ r, ToRebuild fs e.1 r → r.seq = e.2 := by
    rintro e he r ⟨hl, -⟩
    obtain ⟨r', hmem, -, hs⟩ := mem_slotsWhere.mp (mem_sortSeq.mp he)
    rw [lookup_of_mem h hmem] at hl
    obtain rfl := SlotRow.record.inj (Option.some.inj hl)
    exact hs.symm
  rw [rebuildList, List.pairwise_map]
  refine (sortSeq_slotsWhere_sorted _ h).imp_of_mem fun {a b} ha hb hab rx ry hx hy => ?_
  rw [hseq a ha rx hx, hseq b hb ry hy]
  exact (seqBefore_iff a b).mp hab

theorem rebuildList_eq_nil {fs : List (Nat × SlotRow)}
    (h : ∀ e ∈ fs, ∀ r, e.2 = .record r → r.locked = true → r.acked = true) : rebuildList fs = [] := by
  refine List.eq_nil_iff_forall_not_mem.mpr fun j hj => ?_
  rw [rebuildList, List.mem_map] at hj
  obtain ⟨x, hx, -⟩ := hj
  obtain ⟨r, hmem, hp, -⟩ := mem_slotsWhere.mp (mem_sortSeq.mp hx)
  obtain ⟨hlock, hack⟩ : r.locked = true ∧ r.acked = false := by simpa using hp
  rw [h _ hmem r rfl hlock] at hack
  exact nomatch hack

theorem rebuildFrom_nil (s : State) : rebuildFrom [] s = endScan s := rfl

theorem rebuildFrom_ne_nil {l : List Nat} (h : l ≠ []) (s : State) :
    rebuildFrom l s = { s with sm := { s.sm with scan := .rebuild l none } } := if_neg (by simpa using h)

theorem afterSlot_next {k : Nat} (h : k < 8191) (s : State) :
    afterSlot k s = { s with sm := { s.sm with scan := .slots (k + 1) [] } } :=
  if_pos (show k + 1 < Config.storeSlots from Nat.succ_lt_succ h)

theorem afterSlot_last (s : State) : afterSlot 8191 s = afterSlots s := if_neg (by decide)

/-! ### The rebuild (R127) -/

theorem exec_scanRebuildRead {d : Disturb} {k : Nat} {rest : List Nat} {meter : Option Word} {s : State} (hr : Awake s)
    (hready : readReady s = true) (hscan : s.sm.scan = .rebuild (k :: rest) meter) :
    exec (.scanRebuildRead d) s = .next (finish s (takeRebuildWord d k rest meter s)) := by
  refine (event_taken hr ?_).trans ?_
  · simp [hready, scanInRebuild, hscan]
  · simp only [rebuildStep, hscan]

theorem takeRebuildWord_first {d : Disturb} {k : Nat} {rest : List Nat} {s : State} (he : (readResult s d).2 = false) :
    takeRebuildWord d k rest none s =
      { completeRead d s with sm := { s.sm with scan := .rebuild (k :: rest) (some (readResult s d).1) } } := by
  unfold takeRebuildWord
  dsimp only
  rw [if_neg (by simp [he]), completeRead_sm]

theorem takeRebuildWord_error {d : Disturb} {k : Nat} {rest : List Nat} {meter : Option Word} {s : State}
    (he : (readResult s d).2 = true) :
    takeRebuildWord d k rest meter s = rebuildFrom rest (quarantineFinding k (completeRead d s)) := if_pos he

theorem takeRebuildWord_second {d : Disturb} {k : Nat} {rest : List Nat} {id : Word} {s : State}
    (he : (readResult s d).2 = false) :
    takeRebuildWord d k rest (some id) s =
      rebuildFrom rest
        (createTamper ⟨findingRoute (completeRead d s) k, id, bits (readResult s d).1 24 8, some k⟩ (completeRead d s)) :=
  if_neg (by simp [he])

theorem findingRoute_of {s : State} {k : Nat} {r : RecRow} (h : lookup s.sm.findings k = some (.record r)) :
    findingRoute s k = r.route := by rw [findingRoute, h]

/-- The state with the scan's finding made: its sequence number resumes behind the highest one found. -/
theorem resumed_eq (fs : List (Nat × SlotRow)) (ro : List RosterEntry) (hi : Option Word) (d : Disturb) (s : State) :
    { withFindings fs ro hi (completeRead d s) with
      sm := { (withFindings fs ro hi (completeRead d s)).sm with nextSeq := resumeSeq hi } } =
      { completeRead d s with
        sm := { s.sm with findings := fs, workRoster := ro, highest := hi, nextSeq := resumeSeq hi } } := by
  rw [withFindings, completeRead_sm]

/-- Settles O51: the finding by `takeScanWord_decides`, the end by `endScan_ended`, the rebuild's order by
`rebuildList_sorted`. -/
theorem scanClassifiesAndRebuilds : Obligations.ScanClassifiesAndRebuilds := by
  refine ⟨fun d k ws s hr hready hscan => ⟨fun hlen he => ?_, fun fs ro hi base hdec hbase => ?_⟩,
    fun d k rest s hr hready => ⟨fun hscan he => ?_, fun meter r base hscan hrow hbase => ?_⟩, validHeader_iff⟩
  · rw [exec_scanRead hr hready hscan, takeScanWord_goesOn hlen he]
  · have hbase' : base =
        { completeRead d s with
          sm := { s.sm with findings := fs, workRoster := ro, highest := hi, nextSeq := resumeSeq hi } } := by
      rw [hbase]
      cases hi <;> rfl
    have hafter : afterSlots (withFindings fs ro hi (completeRead d s)) = rebuildFrom (rebuildList fs) base := by
      rw [hbase', ← resumed_eq]
      rfl
    rw [exec_scanRead hr hready hscan, takeScanWord_decides hdec]
    refine ⟨fun hk => ?_, fun hk hall => ?_, fun hk hrise hex => ?_⟩
    · rw [afterSlot_next hk, withFindings, completeRead_sm]
    · subst hk
      rw [afterSlot_last, hafter, rebuildList_eq_nil hall]
      exact ⟨_, rfl, endScan_ended base⟩
    · subst hk
      obtain ⟨j, hj⟩ := hex
      have hne : rebuildList fs ≠ [] := List.ne_nil_of_mem ((mem_rebuildList_iff hrise).mpr hj)
      rw [afterSlot_last, hafter, rebuildFrom_ne_nil hne]
      exact ⟨_, rfl, fun j => mem_rebuildList_iff hrise, rebuildList_sorted hrise⟩
  · rw [exec_scanRebuildRead hr hready hscan, takeRebuildWord_first he]
  · have hrun : takeRebuildWord d k rest meter s = rebuildFrom rest base := by
      rcases hbase with ⟨he, id, rfl, rfl⟩ | ⟨he, rfl⟩
      · rw [takeRebuildWord_second he, createTamper, findingRoute_of (by rwa [completeRead_sm]), completeRead_tamper]
        rfl
      · rw [takeRebuildWord_error he, quarantineFinding, setFinding, findingRoute_of (by rwa [completeRead_sm]),
          completeRead_sm]
        rfl
    rw [exec_scanRebuildRead hr hready hscan, hrun]
    refine ⟨fun hne => ?_, fun hnil => ?_⟩
    · rw [rebuildFrom_ne_nil hne]
    · rw [hnil, rebuildFrom_nil]
      exact ⟨_, rfl, endScan_ended base⟩

end Sys2Proof.Machine
end


section
/-! Composition: the slot taken, the record's words, and what the Tamper Unit does (R114, R133 to R142). -/
namespace Sys2Proof.Machine

/-! ### The slot taken (R142) -/

theorem le_lowestFree (n : Nat) (m : List (Nat × SlotRow)) : n ≤ lowestFree n m := by
  induction m generalizing n with
  | nil => exact le_rfl
  | cons e m ih =>
    unfold lowestFree
    split
    · exact (Nat.le_succ n).trans (ih (n + 1))
    · exact le_rfl

theorem lookup_below_lowestFree {n : Nat} {m : List (Nat × SlotRow)} {j : Nat} (hn : n ≤ j) (hj : j < lowestFree n m) :
    lookup m j ≠ none := by
  induction m generalizing n with
  | nil => exact absurd hj (Nat.not_lt.mpr hn)
  | cons e m ih =>
    obtain ⟨k, row⟩ := e
    unfold lowestFree at hj
    split_ifs at hj with hk
    · by_cases hjk : k = j
      · simp [lookup, hjk]
      · simpa [lookup, hjk] using ih (by omega) hj
    · omega

theorem lowestFree_eq {m : List (Nat × SlotRow)} {k : Nat} (hr : risingFrom 0 m = true) (hk : lookup m k = none)
    (hbelow : ∀ j, j < k → lookup m j ≠ none) : lowestFree 0 m = k := by
  rcases Nat.lt_trichotomy (lowestFree 0 m) k with h | h | h
  · exact absurd (lookup_lowestFree hr) (hbelow _ h)
  · exact h
  · exact absurd hk (lookup_below_lowestFree (Nat.zero_le k) h)

theorem length_insertAt_new {α : Type} {m : List (Nat × α)} {k : Nat} (h : lookup m k = none) (v : α) :
    (insertAt m k v).length = m.length + 1 := by
  induction m with
  | nil => rfl
  | cons e m ih =>
    obtain ⟨j, w⟩ := e
    unfold lookup at h
    split_ifs at h with hj
    unfold insertAt
    split
    · rfl
    · rw [if_neg (Ne.symm hj), List.length_cons, ih h, List.length_cons]

theorem insertAt_insertAt {α : Type} (m : List (Nat × α)) (k : Nat) (v w : α) :
    insertAt (insertAt m k v) k w = insertAt m k w := by
  induction m with
  | nil => simp [insertAt]
  | cons e m ih =>
    obtain ⟨j, x⟩ := e
    rcases Nat.lt_trichotomy k j with h | h | h
    · simp [insertAt, h]
    · simp [insertAt, h]
    · simp [insertAt, Nat.not_lt.mpr h.le, h.ne', ih]

/-! ### The words of a record (R133, R140) -/

theorem recordSource_eq {m : Meter} {c : Confirmed} (h : RecordSource m c) : recordSource m = c := by
  unfold recordSource
  rcases h with hc | ⟨hc, ⟨x, hx, rfl⟩ | ⟨hw, rfl⟩⟩
  · rw [hc]
  · rw [hc, hx]
  · rw [hc, hw]
    rfl

theorem repeatField_eq (c : Byte) : repeatField c = min c.toNat 31 := (min_def _ _).symm

theorem fixWords_eq (f : Option BurstFix) :
    fixWords f =
      [(f.map fun f => f.lat).getD 0, (f.map fun f => f.lon).getD 0, (f.map fun f => f.age).getD 0xFFFFFFFF#32] := by
  cases f <;> rfl

theorem pathWords_eq (m : Meter) :
    pathWords m =
      [(m.best.getD 0).setWidth 32 ||| (((m.learned.map fun l => l.path.hops).getD 0xFF#8).setWidth 32 <<< 8) |||
          ((m.lastCounter.getD 0).setWidth 32 <<< 16),
        (m.learned.map fun l => l.path.hop1).getD 0, (m.learned.map fun l => l.path.hop2).getD 0] := by
  have hswap (a b c : Word) : a ||| c ||| b = a ||| b ||| c := by
    rw [BitVec.or_assoc, BitVec.or_comm c, ← BitVec.or_assoc]
  have hnone : num 0xFF 8 = ((0xFF#8).setWidth 32 : Word) <<< 8 := by decide
  unfold pathWords
  cases m.learned with
  | none =>
    simp only [Option.map_none, Option.getD_none, place_zero, hnone]
    rw [hswap, place]
  | some l =>
    simp only [Option.map_some, Option.getD_some, place_zero]
    rw [hswap, place, place]

theorem recordBody_eq {m : Meter} {c : Confirmed} (h : RecordSource m c) (seq : Word) (route : Half) (causes : Byte)
    (word13 : Word) : recordBody m seq route causes word13 = meterWords m c seq route causes word13 := by
  have hvalue : (c.reading.value.extractLsb' 0 32 : Word) = c.reading.value.setWidth 32 := by
    ext n hn
    simp
  unfold recordBody
  dsimp only
  rw [recordSource_eq h, fixWords_eq, pathWords_eq, repeatField_eq, place_zero, place_zero, hvalue]
  rfl

theorem recordWrites_eq (sel : BitVec 3) (k : Nat) (body : List Word) (header : Word) :
    recordWrites sel k body header = recordGiven sel k body header := rfl

theorem headerWord_eq (kind : Kind) (locked acked : Bool) : headerWord kind locked acked = recordHeader kind locked acked := rfl

/-! ### The Tamper Unit's step (R114) -/

theorem awaits_iff (route : Half) (meter : Word) (e : TamperEntry) :
    e.awaits route meter = true ↔ e.route = route ∧ e.meter = meter ∧ e.slot = none := by
  simp [TamperEntry.awaits, and_assoc]

theorem assignSlot_first {route : Half} {meter : Word} {e : TamperEntry} {pre post : List TamperEntry} (k : Nat) (causes : Byte)
    (he : e.awaits route meter = true) (hpre : ∀ x ∈ pre, ¬x.awaits route meter = true) :
    assignSlot route meter k causes (pre ++ e :: post) = pre ++ { e with slot := some k, causes := causes } :: post := by
  induction pre with
  | nil => exact if_pos he
  | cons x pre ih =>
    rw [List.cons_append, assignSlot, if_neg (hpre x List.mem_cons_self), ih fun y hy => hpre y (List.mem_cons_of_mem _ hy)]
    rfl

theorem assignSlot_none {route : Half} {meter : Word} {l : List TamperEntry} (k : Nat) (causes : Byte)
    (h : ∀ x ∈ l, ¬x.awaits route meter = true) : assignSlot route meter k causes l = l := by
  induction l with
  | nil => rfl
  | cons x l ih => rw [assignSlot, if_neg (h x List.mem_cons_self), ih fun y hy => h y (List.mem_cons_of_mem _ hy)]

theorem modRow_some {k : Nat} {f : RecRow → RecRow} {r : RecRow} {s : State} (h : s.rowOf k = some r) :
    modRow k f s = { s with sm := { s.sm with slots := insertAt s.sm.slots k (.record (f r)) } } := by rw [modRow, h]

/-- The Tamper Unit's part after the composition of the record of `m` into slot `k`. -/
def tamperAfter (m : Meter) (k : Nat) (route : Half) (t : Tamper) : Tamper :=
  { t with
    records := if m.causes = 0 then t.records else satInc t.records
    list := if m.ackPending || m.causes == 0 then t.list else assignSlot route m.img.id k m.causes t.list }

theorem tamperAtComposition_eq {i k : Nat} {note : Bool} {m : Meter} {r : RecRow} {s : State} (hm : s.dir[i]? = some m)
    (hr : s.rowOf k = some r) :
    tamperAtComposition i k note s =
      { s with
        dir :=
          s.dir.modify i fun x =>
            { x with written := m.causes, ackPending := false, pendingNote := if note then false else x.pendingNote }
        sm :=
          { s.sm with
            slots :=
              insertAt s.sm.slots k
                (.record { r with locked := r.locked || m.causes != 0, acked := r.acked || m.ackPending }) }
        tamper := tamperAfter m k s.route.number s.tamper } := by
  unfold tamperAtComposition
  rw [hm]
  dsimp only
  rw [modRow_some (s := modMeter i _ s) hr]
  rfl

/-! ### What a composition makes (R139) -/

/-- The entry whose record is composed into slot `k`. -/
def composed (req : Request) (k : Nat) (seq : Word) (causes : Byte) (x : Meter) : Meter :=
  match req with
  | .note _ => { x with written := causes, ackPending := false, pendingNote := false }
  | _ => { x with first := some ⟨k, seq⟩, written := causes, ackPending := false }

/-- The state that the composition of a record of the entry `m` at index `i` leaves, but for the record body and STORE_LOW. -/
def composedState (req : Request) (rest : List Request) (k i : Nat) (m : Meter) (s : State) : State :=
  { s with
    dir := s.dir.modify i (composed req k s.sm.nextSeq m.causes)
    sm :=
      { s.sm with
        backlog := rest
        slots :=
          insertAt s.sm.slots k
            (.record ⟨.writing, req.kind, s.sm.nextSeq, s.route.number, decide (m.causes ≠ 0), m.ackPending⟩)
        nextSeq := s.sm.nextSeq + 1
        roster := rosterUp s.route.number s.sm.roster }
    tamper := tamperAfter m k s.route.number s.tamper }

theorem rowOf_takeSlot (req : Request) (rest : List Request) (k : Nat) (s : State) :
    (takeSlot req rest k s).rowOf k = some ⟨.writing, req.kind, s.sm.nextSeq, s.route.number, false, false⟩ :=
  rowOf_eq_some_iff.mpr (lookup_insertAt_same _ _ _)

theorem causes_ne_zero (c : Byte) : (false || c != 0) = decide (c ≠ 0) := by
  rw [Bool.false_or, Bool.eq_iff_iff, bne_iff_ne, decide_eq_true_eq]

/-- A READING or MISS record makes slot `k` the meter's first record before the Tamper Unit's step. -/
theorem tamperAtComposition_first {req : Request} {rest : List Request} {k i : Nat} {m : Meter} {s : State}
    (hm : s.dir[i]? = some m) (hreq : ∀ x c, composed req k s.sm.nextSeq c x =
      { x with first := some ⟨k, s.sm.nextSeq⟩, written := c, ackPending := false }) :
    tamperAtComposition i k false
        (modMeter i (fun m => { m with first := some ⟨k, s.sm.nextSeq⟩ }) (takeSlot req rest k s)) =
      composedState req rest k i m s := by
  have hdir : (modMeter i (fun m => { m with first := some ⟨k, s.sm.nextSeq⟩ }) (takeSlot req rest k s)).dir[i]? =
      some { m with first := some ⟨k, s.sm.nextSeq⟩ } := by
    show (s.dir.modify i _)[i]? = _
    rw [List.getElem?_modify_eq, hm]
    rfl
  have hfun : composed req k s.sm.nextSeq m.causes =
      fun x => { x with first := some ⟨k, s.sm.nextSeq⟩, written := m.causes, ackPending := false } :=
    funext fun x => hreq x m.causes
  rw [tamperAtComposition_eq hdir (rowOf_takeSlot req rest k s)]
  show ({ s with dir := _, sm := _, tamper := _ } : State) = _
  rw [composedState, hfun, ← causes_ne_zero]
  congr 1
  · exact List.modify_modify_eq _ _ _ _
  · rw [takeSlot]
    show ({ s.sm with backlog := _, slots := insertAt (insertAt _ _ _) _ _, nextSeq := _, roster := _ } : StoreManager) = _
    rw [insertAt_insertAt, Bool.false_or]
    rfl

theorem markComposed_eq {req : Request} {rest : List Request} {k i : Nat} {m : Meter} {s : State} (hi : req.index = some i)
    (hm : s.dir[i]? = some m) :
    markComposed req k s.sm.nextSeq (takeSlot req rest k s) = composedState req rest k i m s := by
  cases req with
  | reading j =>
    obtain rfl := Option.some.inj hi
    exact tamperAtComposition_first hm fun _ _ => rfl
  | miss j reason =>
    obtain rfl := Option.some.inj hi
    exact tamperAtComposition_first hm fun _ _ => rfl
  | note j =>
    obtain rfl := Option.some.inj hi
    refine (tamperAtComposition_eq (s := takeSlot (.note j) rest k s) hm (rowOf_takeSlot _ _ _ _)).trans ?_
    rw [composedState, ← causes_ne_zero]
    show ({ s with dir := _, sm := _, tamper := _ } : State) = _
    congr 1
    rw [takeSlot]
    show ({ s.sm with backlog := _, slots := insertAt (insertAt _ _ _) _ _, nextSeq := _, roster := _ } : StoreManager) = _
    rw [insertAt_insertAt, Bool.false_or]
    rfl
  | summary => exact nomatch hi

end Sys2Proof.Machine
end


section
/-! The composition event, the release of a composed record, and the counts of the slot states (R131, R138, R177). -/
namespace Sys2Proof.Machine

/-! ### STORE_LOW at a composition (R143) -/

/-- STORE_LOW is raised when the free count has fallen to the limit. -/
def lowChecked (s u : State) : State := if Config.storeLow < s.freeCount ∧ u.freeCount ≤ Config.storeLow then raise .storeLow u else u

theorem lowChecked_eq {s u : State} (h : u.freeCount + 1 = s.freeCount) :
    lowChecked s u = { u with ev := if s.freeCount = 257 then u.ev.occur .storeLow else u.ev } := by
  have hiff : (Config.storeLow < s.freeCount ∧ u.freeCount ≤ Config.storeLow) ↔ s.freeCount = 257 := by
    rw [← h]
    show 256 < u.freeCount + 1 ∧ u.freeCount ≤ 256 ↔ _
    omega
  rw [lowChecked, if_congr hiff rfl rfl]
  split <;> rfl

theorem freeCount_eq {s : State} (hd : s.sm.scan = .done) : s.freeCount = 8192 - s.sm.slots.length :=
  if_pos (decide_eq_true hd)

theorem freeCount_insertAt {k : Nat} {row : SlotRow} {s u : State} (hd : s.sm.scan = .done) (hfree : 0 < s.freeCount)
    (hk : lookup s.sm.slots k = none) (hu : u.sm.scan = .done) (hl : u.sm.slots = insertAt s.sm.slots k row) :
    u.freeCount + 1 = s.freeCount := by
  rw [freeCount_eq hd] at hfree ⊢
  rw [freeCount_eq hu, hl, length_insertAt_new hk]
  omega

/-! ### The event -/

theorem exec_composition {s : State} (hr : Awake s) (hd : s.sm.scan = .done) (hb : s.sm.backlog ≠ []) (hfree : 0 < s.freeCount)
    (hflt : s.faultLatched = false) (hseq : s.sm.nextSeq ≠ 0) (hw : s.ins.isWaiting .storeManager = false)
    (hheld : s.ins.heldBody = none) : exec .composition s = .next (finish s (compose s)) := by
  refine event_taken hr ?_
  rw [canCompose, bne_iff_ne.mpr hseq]
  simp [State.scanDone, hd, hb, hfree, hflt, hw, hheld]

/-- The record held back until it is given. -/
def withBody (k : Nat) (ws : List QWrite) (s : State) : State := { s with ins := { s.ins with heldBody := some ⟨k, ws⟩ } }

theorem compose_eq {req : Request} {rest : List Request} {k : Nat} {t s : State} (hb : s.sm.backlog = req :: rest)
    (hk : lowestFree 0 s.sm.slots = k) (ht : markComposed req k s.sm.nextSeq (takeSlot req rest k s) = t) :
    compose s =
      lowChecked s (withBody k (recordGiven t.path.areaSel k (composedBody req s.sm.nextSeq t) (headerNow t k)) t) := by
  unfold compose
  rw [hb]
  dsimp only
  rw [hk, ht, recordWrites_eq]
  rfl

theorem headerNow_eq {t : State} {k : Nat} {r : RecRow} (h : t.rowOf k = some r) :
    headerNow t k = recordHeader r.kind r.locked r.acked := by
  rw [headerNow, h]
  exact headerWord_eq _ _ _

theorem rosterUp_eq (r : Half) (ro : List RosterEntry) :
    rosterUp r ro = ro.map fun e => if e.route = r then { e with count := e.count + 1 } else e := rfl

/-! ### A SUMMARY (R135) -/

theorem summaryBody_eq (seq : Word) {s : State} {meters : List Meter}
    (h : meters = if s.route.state = .opened ∨ s.route.state = .closing then s.dir else []) :
    summaryBody s seq =
      [seq, s.route.number.setWidth 32, 0, BitVec.ofNat 32 meters.length,
        BitVec.ofNat 32 (meters.countP fun m => decide (m.state = .read)), s.route.missed.setWidth 32,
        BitVec.ofNat 32 (meters.countP fun m => decide (m.state = .unreachable)), s.tamper.records.setWidth 32,
        s.poll.sent.setWidth 32, s.poll.answered.setWidth 32, s.cap.routeJudged.setWidth 32,
        s.cap.routeUnknown.setWidth 32, s.cap.routeOverruns.setWidth 32, 0, 0] := by
  have hshown : s.routeShown = true ↔ s.route.state = .opened ∨ s.route.state = .closing := routeShown_iff s
  unfold summaryBody State.metersExpected State.metersRead State.metersUnreachable
  simp only [place_zero, num_zero, hshown]
  rw [h]
  split <;> rfl

/-! ### A record of a meter -/

theorem composed_note (i k : Nat) (seq : Word) (causes : Byte) (m : Meter) :
    composed (.note i) k seq causes m = { m with written := causes, ackPending := false, pendingNote := false } := rfl

theorem composed_other {req : Request} {i : Nat} (hi : req.index = some i) (hn : req ≠ .note i) (k : Nat) (seq : Word)
    (causes : Byte) (m : Meter) :
    composed req k seq causes m = { m with first := some ⟨k, seq⟩, written := causes, ackPending := false } := by
  cases req with
  | note j => exact absurd (congrArg Request.note (Option.some.inj hi)) hn
  | reading j => rfl
  | miss j r => rfl
  | summary => rfl

theorem recordBody_composed (req : Request) (k : Nat) (seq : Word) (c : Byte) (m : Meter) (route : Half) (causes : Byte)
    (w : Word) : recordBody (composed req k seq c m) seq route causes w = recordBody m seq route causes w := by
  cases req <;> rfl

theorem written_composed (req : Request) (k : Nat) (seq : Word) (c : Byte) (m : Meter) :
    (composed req k seq c m).written = c := by cases req <;> rfl

theorem word13_composed (req : Request) (k : Nat) (seq : Word) (c : Byte) (m : Meter) :
    req.word13 (composed req k seq c m) = req.word13 m := by cases req <;> rfl

section
variable {req : Request} {rest : List Request} {k i : Nat} {m : Meter} {s : State}

theorem composedState_dir (hm : s.dir[i]? = some m) :
    (composedState req rest k i m s).dir[i]? = some (composed req k s.sm.nextSeq m.causes m) := by
  show (s.dir.modify i _)[i]? = _
  rw [List.getElem?_modify_eq, hm]
  rfl

theorem composedState_dir_other {j : Nat} (hj : j ≠ i) : (composedState req rest k i m s).dir[j]? = s.dir[j]? :=
  getElem?_modify_of_ne _ _ hj

theorem composedBody_meter {c : Confirmed} (hi : req.index = some i) (hm : s.dir[i]? = some m) (hc : RecordSource m c) :
    composedBody req s.sm.nextSeq (composedState req rest k i m s) =
      meterWords m c s.sm.nextSeq s.route.number m.causes (req.word13 m) := by
  unfold composedBody
  rw [hi]
  dsimp only
  rw [composedState_dir hm]
  dsimp only
  rw [recordBody_composed, written_composed, word13_composed, recordBody_eq hc]
  rfl

theorem rowOf_composedState :
    (composedState req rest k i m s).rowOf k =
      some ⟨.writing, req.kind, s.sm.nextSeq, s.route.number, decide (m.causes ≠ 0), m.ackPending⟩ :=
  rowOf_eq_some_iff.mpr (lookup_insertAt_same _ _ _)

end

/-- The request names the entry, and word 13 is what its record shows. -/
theorem index_word13 {req : Request} {i : Nat} {m : Meter} {w : Word}
    (h : (req = .reading i ∧ w = 0) ∨ (∃ reason, req = .miss i reason ∧ w = BitVec.ofNat 32 (missReasonCode reason)) ∨
      (req = .note i ∧ w = (m.first.map fun f => f.seq).getD 0)) : req.index = some i ∧ req.word13 m = w := by
  rcases h with ⟨rfl, rfl⟩ | ⟨reason, rfl, rfl⟩ | ⟨rfl, rfl⟩
  · exact ⟨rfl, rfl⟩
  · exact ⟨rfl, num_zero _⟩
  · refine ⟨rfl, ?_⟩
    unfold Request.word13
    cases m.first <;> rfl

section
variable {m : Meter} {k : Nat} {route : Half} {t : Tamper}

theorem tamperAfter_list_kept (h : m.ackPending = true ∨ m.causes = 0) : (tamperAfter m k route t).list = t.list :=
  if_pos (by simpa using h)

theorem tamperAfter_list_assigned (ha : m.ackPending = false) (hc : m.causes ≠ 0) :
    (tamperAfter m k route t).list = assignSlot route m.img.id k m.causes t.list := if_neg (by rwa [ha, Bool.false_or, beq_iff_eq])

end

/-! ### The release of a composed record (R177) -/

/-- A write with fixed data is given; `e` is the entry it becomes when it joins. -/
def giveWordOf (i : Inserts) (e : QEntry) : Inserts := i.giveWord e.producer e.addr e.data e.notify

/-- The write with fixed data that becomes the entry `e`. -/
def wordWrite (e : QEntry) : QWrite := .word e.addr e.data e.notify

theorem giveWordOf_room {i : Inserts} {e : QEntry} (hw : i.waits = []) (hlen : i.entries.length < 64) :
    giveWordOf i e = i.push e := by
  refine if_pos ?_
  rw [Inserts.room, hw]
  exact Bool.and_eq_true_iff.mpr ⟨decide_eq_true hlen, rfl⟩

/-- Writes join in order while places are free; the entries and the throttle mark alone change. -/
theorem foldl_giveWordOf_room (es : List QEntry) : ∀ {i : Inserts}, i.waits = [] → i.entries.length + es.length ≤ 64 →
    ∃ b, es.foldl giveWordOf i = { i with entries := i.entries ++ es, throttle := b } := by
  induction es with
  | nil => exact fun {i} _ _ => ⟨i.throttle, by rw [List.append_nil]; rfl⟩
  | cons e es ih =>
    intro i hw hlen
    rw [List.length_cons] at hlen
    have hpushed : (i.push e).entries = i.entries ++ [e] := rfl
    obtain ⟨b, hb⟩ := ih (i := i.push e) hw (by rw [hpushed, List.length_append, List.length_singleton]; omega)
    refine ⟨b, ?_⟩
    rw [List.foldl_cons, giveWordOf_room hw (by omega), hb, hpushed, List.append_assoc]
    rfl

/-- The entries that the writes of a record become. -/
def recordEntries (sel : BitVec 3) (k : Nat) (body : List Word) (header : Word) : List QEntry :=
  (List.range 15).map (fun n => ⟨recordAddr sel k (n + 1), body.getD n 0, .storeManager, false⟩) ++
    [⟨recordAddr sel k 0, header, .storeManager, true⟩]

theorem recordGiven_eq (sel : BitVec 3) (k : Nat) (body : List Word) (header : Word) :
    recordGiven sel k body header = (recordEntries sel k body header).map wordWrite := by
  rw [recordEntries, List.map_append, List.map_map]
  rfl

theorem recordEntries_producer (sel : BitVec 3) (k : Nat) (body : List Word) (header : Word) :
    ∀ e ∈ recordEntries sel k body header, e.producer = .storeManager := by
  intro e he
  rcases List.mem_append.mp he with he | he
  · obtain ⟨n, -, rfl⟩ := List.mem_map.mp he
    rfl
  · rw [List.mem_singleton.mp he]

theorem foldl_giveOne_words (t : State) {p : Producer} {es : List QEntry} (h : ∀ e ∈ es, e.producer = p) (i : Inserts) :
    (es.map wordWrite).foldl (fun j q => giveOne t j p q) i = es.foldl giveWordOf i := by
  rw [List.foldl_map]
  exact List.foldl_ext _ _ _ fun j e he => by rw [← h e he]; rfl

theorem releaseBody_waits {t : State} {i : Inserts} {k : Nat} {ws : List QWrite} (h : i.heldBody = some ⟨k, ws⟩)
    (hw : i.waitsWith .uploadUnit (recordAddr t.path.areaSel k 0) = true) : releaseBody t i = i := by
  rw [releaseBody, h]
  exact if_pos hw

theorem releaseBody_gives {t : State} {i : Inserts} {k : Nat} {ws : List QWrite} (h : i.heldBody = some ⟨k, ws⟩)
    (hw : i.waitsWith .uploadUnit (recordAddr t.path.areaSel k 0) = false) :
    releaseBody t i = ws.foldl (fun j q => giveOne t j .storeManager q) { i with heldBody := none } := by
  rw [releaseBody, h]
  exact if_neg (by simp [hw])

theorem waitsWith_iff (i : Inserts) (p : Producer) (a : Nat) :
    i.waitsWith p a = true ↔ ∃ e ∈ i.waits, e.1 = p ∧ ∃ data notify, QWrite.word a data notify ∈ e.2 := by
  rw [Inserts.waitsWith, List.any_eq_true]
  refine exists_congr fun e => and_congr Iff.rfl ?_
  rw [Bool.and_eq_true, decide_eq_true_eq, List.any_eq_true]
  refine and_congr Iff.rfl ⟨?_, ?_⟩
  · rintro ⟨q, hq, hd⟩
    cases q with
    | word b data notify => exact ⟨data, notify, of_decide_eq_true hd ▸ hq⟩
    | status n => exact nomatch hd
    | header k => exact nomatch hd
    | respond => exact nomatch hd
    | response0 => exact nomatch hd
  · rintro ⟨data, notify, hq⟩
    exact ⟨_, hq, decide_eq_true rfl⟩

/-! ### The counts of the slot states (R131) -/

/-- Rows are counted slot by slot. -/
theorem countP_rows {f : Option SlotRow → Bool} (hf : f none = false) (n : Nat) : ∀ {lo : Nat} {m : List (Nat × SlotRow)},
    risingFrom lo m = true → (∀ e ∈ m, e.1 < lo + n) →
    (m.countP fun e => f (some e.2)) = (List.range' lo n).countP fun k => f (lookup m k) := by
  induction n with
  | zero =>
    intro lo m hr hm
    cases m with
    | nil => rfl
    | cons e m =>
      have hlo := risingFrom_le_of_mem hr List.mem_cons_self
      have := hm e List.mem_cons_self
      omega
  | succ n ih =>
    intro lo m hr hm
    rw [List.range'_succ, List.countP_cons]
    by_cases hlo : risingFrom (lo + 1) m = true
    · rw [lookup_none_below m hlo (Nat.lt_succ_self lo), hf, if_neg Bool.false_ne_true]
      exact ih hlo fun e he => by have := hm e he; omega
    · cases m with
      | nil => exact absurd rfl hlo
      | cons e m =>
        obtain ⟨k, row⟩ := e
        obtain ⟨hle, htail⟩ : lo ≤ k ∧ risingFrom (k + 1) m = true := by simpa [risingFrom] using hr
        have hk : k = lo := by
          by_contra hne
          exact hlo (by simpa [risingFrom] using ⟨(by omega : lo + 1 ≤ k), htail⟩)
        subst hk
        rw [List.countP_cons, ih htail fun e he => by have := hm e (List.mem_cons_of_mem _ he); omega]
        have hhead : lookup ((k, row) :: m) k = some row := if_pos rfl
        rw [hhead]
        congr 1
        refine List.countP_congr fun j hj => ?_
        have hne : k ≠ j := by
          have := List.left_le_of_mem_range' hj
          omega
        rw [show lookup ((k, row) :: m) j = lookup m j from if_neg hne]

section
variable {s : State} (hr : risingFrom 0 s.sm.slots = true) (hm : ∀ e ∈ s.sm.slots, e.1 < 8192)
include hr hm

theorem countP_slots {f : Option SlotRow → Bool} (hf : f none = false) :
    (s.sm.slots.countP fun e => f (some e.2)) = (List.range 8192).countP fun k => f (lookup s.sm.slots k) := by
  rw [List.range_eq_range']
  exact countP_rows hf 8192 hr fun e he => by have := hm e he; omega

theorem countP_slotState {st : SlotState} {f : Option SlotRow → Bool} (hf : f none = false)
    (hst : ∀ k, s.slotState k = st ↔ f (lookup s.sm.slots k) = true) :
    (s.sm.slots.countP fun e => f (some e.2)) = (List.range 8192).countP fun k => decide (s.slotState k = st) := by
  rw [countP_slots hr hm hf]
  refine List.countP_congr fun k _ => ?_
  rw [decide_eq_true_eq, hst]

end

/-- The state that a slot shows for its row. -/
theorem slotState_row {s : State} (hd : s.sm.scan = .done) (k : Nat) :
    (s.slotState k = .free ↔ lookup s.sm.slots k = none) ∧
      (s.slotState k = .quarantined ↔ lookup s.sm.slots k = some .quarantined) ∧
      (s.slotState k = .stored ↔ ((lookup s.sm.slots k).any fun r => r.isIn .stored) = true) ∧
      (s.slotState k = .inBatch ↔ ((lookup s.sm.slots k).any fun r => r.isIn .inBatch) = true) := by
  have hdone : s.scanDone = true := decide_eq_true hd
  rw [State.slotState, if_pos hdone]
  cases lookup s.sm.slots k with
  | none => simp
  | some row =>
    cases row with
    | quarantined => simp [SlotRow.isIn]
    | record r => cases hst : r.state <;> simp [SlotRow.isIn, hst]

end Sys2Proof.Machine
end


section
/-! CompositionTakesTheHead, assembled: a SUMMARY, a meter's record, the release, the counts. -/
namespace Sys2Proof.Machine

/-- R138, R142: the head of the Backlog can be composed into slot `k`. -/
structure ComposesInto (req : Request) (rest : List Request) (k : Nat) (s : State) : Prop where
  awake : Awake s
  done : s.sm.scan = .done
  head : s.sm.backlog = req :: rest
  room : 0 < s.freeCount
  noFault : s.faultLatched = false
  number : s.sm.nextSeq ≠ 0
  noWait : s.ins.isWaiting .storeManager = false
  noBody : s.ins.heldBody = none
  free : lookup s.sm.slots k = none
  lowest : lowestFree 0 s.sm.slots = k

/-- A composed record's state, with its body held back and STORE_LOW raised when 256 slots are left. -/
def composedEnd (k : Nat) (ws : List QWrite) (s t : State) : State :=
  { withBody k ws t with ev := if s.freeCount = 257 then t.ev.occur .storeLow else t.ev }

section
variable {req : Request} {rest : List Request} {k : Nat} {s : State}

theorem exec_composes {row : SlotRow} {t : State} (h : ComposesInto req rest k s)
    (ht : markComposed req k s.sm.nextSeq (takeSlot req rest k s) = t) (hscan : t.sm.scan = .done)
    (hslots : t.sm.slots = insertAt s.sm.slots k row) :
    exec .composition s =
      .next (finish s
        (composedEnd k (recordGiven t.path.areaSel k (composedBody req s.sm.nextSeq t) (headerNow t k)) s t)) := by
  have hne : s.sm.backlog ≠ [] := by rw [h.head]; exact List.cons_ne_nil _ _
  have hcount (ws : List QWrite) : (withBody k ws t).freeCount + 1 = s.freeCount :=
    freeCount_insertAt (row := row) (u := withBody k ws t) h.done h.room h.free hscan hslots
  rw [exec_composition h.awake h.done hne h.room h.noFault h.number h.noWait h.noBody, compose_eq h.head h.lowest ht,
    lowChecked_eq (hcount _)]
  rfl

theorem exec_composes_summary (h : ComposesInto .summary rest k s) :
    exec .composition s =
      .next (finish s
        (composedEnd k
          (recordGiven s.path.areaSel k (summaryBody (takeSlot .summary rest k s) s.sm.nextSeq) 0x000004A5#32) s
          (takeSlot .summary rest k s))) := by
  have hheader : headerNow (takeSlot .summary rest k s) k = 0x000004A5#32 := by
    rw [headerNow_eq (rowOf_takeSlot _ _ _ _)]
    show recordHeader .summary false false = _
    decide
  rw [exec_composes (t := takeSlot .summary rest k s) h rfl h.done rfl, hheader]
  rfl

theorem exec_composes_meter {i : Nat} {m : Meter} {c : Confirmed} (h : ComposesInto req rest k s) (hi : req.index = some i)
    (hm : s.dir[i]? = some m) (hc : RecordSource m c) :
    exec .composition s =
      .next (finish s
        (composedEnd k
          (recordGiven s.path.areaSel k (meterWords m c s.sm.nextSeq s.route.number m.causes (req.word13 m))
            (recordHeader req.kind (decide (m.causes ≠ 0)) m.ackPending)) s
          (composedState req rest k i m s))) := by
  rw [exec_composes h (markComposed_eq hi hm) h.done rfl, composedBody_meter hi hm hc, headerNow_eq rowOf_composedState]
  rfl

end

/-- Settles O53: `exec_composes_summary` and `exec_composes_meter` give the state composed, `releaseBody` the record's writes, and
`countP_slotState` the counts. -/
theorem compositionTakesTheHead : Obligations.CompositionTakesTheHead := by
  refine ⟨fun req rest k s hr hd hb hroom hflt hseq hw hheld hrise hk hbelow => ?_, fun t i sel k body header hheld => ?_,
    fun s hd hr hm => ?_⟩
  · have hcomp : ComposesInto req rest k s :=
      ⟨hr, hd, hb, hroom, hflt, hseq, hw, hheld, hk, lowestFree_eq hrise hk hbelow⟩
    refine ⟨fun meters hreq hmeters => ?_, fun i m c word13 hreq hm hc => ?_⟩
    · subst hreq
      rw [exec_composes_summary hcomp, summaryBody_eq (s := takeSlot .summary rest k s) _ hmeters]
      exact ⟨_, rfl, rfl, rfl, rfl, rfl, rfl, rfl, rfl, rfl, rfl, rfl⟩
    · obtain ⟨hi, h13⟩ := index_word13 hreq
      rw [exec_composes_meter hcomp hi hm hc, h13]
      refine ⟨_, rfl, rfl, rfl, rfl, rfl, fun hne => ?_, fun heq => ?_, fun j hj => composedState_dir_other (rest := rest) hj, rfl, rfl,
        fun h => tamperAfter_list_kept h, fun pre e post ha hc hl he hpre => ?_, fun ha hc hno => ?_, rfl, rfl, rfl⟩
      · rw [← composed_other hi hne k s.sm.nextSeq m.causes m]
        exact composedState_dir (rest := rest) hm
      · subst heq
        exact composedState_dir (rest := rest) hm
      · refine (tamperAfter_list_assigned ha hc).trans ?_
        rw [hl]
        exact assignSlot_first k _ ((awaits_iff _ _ _).mpr he) fun x hx h => hpre x hx ((awaits_iff _ _ _).mp h)
      · exact (tamperAfter_list_assigned ha hc).trans (assignSlot_none k _ fun x hx h => hno x hx ((awaits_iff _ _ _).mp h))
  · refine ⟨fun hwaits => releaseBody_waits hheld ((waitsWith_iff _ _ _).mpr hwaits), fun hnone hlen => ?_⟩
    have hno : i.waitsWith .uploadUnit (recordAddr t.path.areaSel k 0) = false := by rw [Inserts.waitsWith, hnone]; rfl
    obtain ⟨b, hgiven⟩ := foldl_giveWordOf_room (recordEntries sel k body header)
      (i := { i with heldBody := none }) hnone (by simpa [recordEntries] using hlen)
    rw [releaseBody_gives hheld hno, recordGiven_eq, foldl_giveOne_words t (recordEntries_producer _ _ _ _), hgiven]
    exact ⟨rfl, (List.append_assoc _ _ _).symm⟩
  · have hstate := slotState_row hd
    refine ⟨?_, ?_, ?_, ?_⟩
    · have hlisted := countP_slots (f := Option.isSome) hr hm rfl
      have hlen : s.sm.slots.countP (fun _ => (some ()).isSome) = s.sm.slots.length := List.countP_eq_length.mpr fun _ _ => rfl
      have hsplit := List.length_eq_countP_add_countP (fun k => (lookup s.sm.slots k).isSome) (l := List.range 8192)
      rw [List.length_range] at hsplit
      have hfree : (List.range 8192).countP (fun k => decide (s.slotState k = .free)) =
          (List.range 8192).countP fun k => decide ¬(lookup s.sm.slots k).isSome = true :=
        List.countP_congr fun k _ => by simp [(hstate k).1]
      have hall : s.sm.slots.length = (List.range 8192).countP fun k => (lookup s.sm.slots k).isSome :=
        hlen.symm.trans hlisted
      rw [freeCount_eq hd, hfree]
      omega
    · exact countP_slotState (f := fun o => o.any fun r => r.isIn .stored) hr hm rfl fun k => (hstate k).2.2.1
    · exact countP_slotState (f := fun o => o.any fun r => r.isIn .inBatch) hr hm rfl fun k => (hstate k).2.2.2
    · have hrows : s.quarantinedCount = s.sm.slots.countP fun e => decide (some e.2 = some SlotRow.quarantined) :=
        List.countP_congr fun e _ => by simp
      rw [hrows]
      refine countP_slotState (f := fun o => decide (o = some .quarantined)) hr hm rfl fun k => ?_
      rw [(hstate k).2.1, decide_eq_true_eq]

end Sys2Proof.Machine
end


section
/-! The common checks of a commit: the check byte, the code, the length and the scan (R26, R27, R28). -/
namespace Sys2Proof.Machine

/-! ### The check byte (R26) -/

theorem eight_eq {α : Type} (f : α → α) (x : α) : eight f x = f^[8] x := rfl

/-- R26: the check byte over the parameter words that word 0 counts and over word 0's own three bytes. -/
theorem checkByte_eq (ps : List Word) {w0 : Word} {n : Nat} (hw : w0 = ps.getD 0 0)
    (hn : n = if (w0.extractLsb' 0 8).toNat ≤ 15 then (w0.extractLsb' 0 8).toNat else 15) :
    checkByte ps =
      ((((List.range n).map fun k => ps.getD (k + 1) 0).flatMap fun x =>
          [x.extractLsb' 0 8, x.extractLsb' 8 8, x.extractLsb' 16 8, x.extractLsb' 24 8]) ++
        [w0.extractLsb' 0 8, w0.extractLsb' 8 8, w0.extractLsb' 16 8]).foldl
        (fun c b => (fun y : Byte => if y.msb then (y <<< 1) ^^^ 0x2F#8 else y <<< 1)^[8] (c ^^^ b)) 0xFF#8 := by
  have hcount : checkedWords w0 = n := by
    rw [hn]
    exact min_def _ _
  rw [← hcount, hw]
  rfl

/-! ### What the checks answer -/

theorem checkAndRun_refused {ps : List Word} {status : Byte} {s : State} (h : checkRecord ps = .inr status) :
    checkAndRun ps s = respond status [] s := by rw [checkAndRun, h]

theorem checkAndRun_unscanned {ps : List Word} {c : HostCommand} {s : State} (h : checkRecord ps = .inl c)
    (hs : s.scanDone = false) : checkAndRun ps s = respond 0x14#8 [] s := by
  rw [checkAndRun, h]
  exact if_neg (by simp [hs])

theorem checkRecord_badCode {ps : List Word} (hc : checkByte ps = bits (param ps 0) 24 8)
    (hno : ∀ c : HostCommand, codeOf c ≠ bits (param ps 0) 8 8) : checkRecord ps = .inr 0x11#8 := by
  have hfind : commandOf (bits (param ps 0) 8 8) = none := List.find?_eq_none.mpr fun c _ => by simp [hno c]
  unfold checkRecord
  dsimp only
  rw [if_neg (not_not_intro hc), hfind]
  rfl

theorem exec_commit_begins {c : HostCommand} {h : CmdHeader} {s : State} (hb : Begins s) :
    exec (hostInstr c h) s = .next (finish s (checkAndRun (commitParams c h s) (begun c h s))) := by
  rw [exec_hostInstr, commitOf_begins c h s hb]

/-! ### A commit by UPSTREAM_WRITE -/

/-- The shadow after a commit of `w`: word 0 is the word written, the others stay. -/
theorem paramCopy_shadowed {a : Nat} {w : BusWord} {s : State} (hc : canonical 0 s.path.shadow = true) :
    paramCopy (shadowed 0 a w allLanes s) =
      w.data :: (List.range 15).map fun n => getD 0 s.path.shadow (n + 1) := by
  have h0 : (shadowed 0 a w allLanes s).shadowWord 0 = w.data := by
    refine (getD_setD_same _ _ _ _ hc).trans ?_
    rw [mergeBytes_all]
  have hn (n : Nat) : (shadowed 0 a w allLanes s).shadowWord (n + 1) = getD 0 s.path.shadow (n + 1) :=
    getD_setD_other _ _ _ (Nat.succ_ne_zero n)
  rw [paramCopy, List.range_succ_eq_map, List.map_cons, h0, List.map_map]
  exact congrArg _ (List.map_congr_left fun n _ => hn n)

theorem exec_upstreamWrite_commits {addr : Word} {w : BusWord} {s : State} (hb : Begins s)
    (ha : accessAddr addr = commandAddr s.path.areaSel 0) :
    exec (.upstreamWrite addr w allLanes) s =
      .next (finish s
        (checkAndRun (paramCopy (shadowed 0 (commandAddr s.path.areaSel 0) w allLanes s))
          (beginFlight (shadowed 0 (commandAddr s.path.areaSel 0) w allLanes s)))) := by
  obtain ⟨hf, hq, hi⟩ := hb
  have hw : windowOf s.path.areaSel (commandAddr s.path.areaSel 0) = .command 0 := windowOf_command _ (by decide)
  have hidle : ¬(shadowed 0 (commandAddr s.path.areaSel 0) w allLanes s).cmd.inFlight = true := by
    show ¬s.cmd.inFlight = true
    simp [hi]
  rw [← ha] at hw hq
  rw [exec_write_passes hf hw rfl hq rfl, passWrite_commit, ha, passShadowed_eq w allLanes (shadowKey_command _ 0),
    commitCommand, if_neg hidle]
  rfl

theorem hostCommand_mem (c : HostCommand) : c ∈ hostCommands := by cases c <;> decide

/-- Settles O23: the checks in their order on the parameter copy of the commit, and the table. -/
theorem commonChecksRefuse : Obligations.CommonChecksRefuse := by
  refine ⟨fun c h s hb => ⟨fun hc => ?_, fun hc hl => ?_, fun hc hl hs => ?_⟩,
    fun addr w ps s hb ha hcan hps hc hno => ?_, fun ps w0 n hw hn => checkByte_eq ps hw hn,
    ⟨by decide, hostCommand_mem⟩, bits_commandWord⟩
  · rw [exec_commit_begins hb]
    exact congrArg (fun u => Host.Outcome.next (finish s u))
      (checkAndRun_refused ((checkRecord_commit c h s).trans (if_pos (Ne.symm hc))))
  · rw [exec_commit_begins hb]
    exact congrArg (fun u => Host.Outcome.next (finish s u))
      (checkAndRun_refused ((checkRecord_commit c h s).trans ((if_neg (not_not_intro hc.symm)).trans (if_neg hl))))
  · rw [exec_commit_begins hb]
    exact congrArg (fun u => Host.Outcome.next (finish s u))
      (checkAndRun_unscanned ((checkRecord_commit c h s).trans ((if_neg (not_not_intro hc.symm)).trans (if_pos hl))) hs)
  · have hcopy : paramCopy (shadowed 0 (commandAddr s.path.areaSel 0) w allLanes s) = ps :=
      (paramCopy_shadowed hcan).trans hps.symm
    have h0 : param ps 0 = w.data := by rw [hps]; rfl
    rw [← h0] at hc hno
    rw [exec_upstreamWrite_commits hb ha, hcopy, checkAndRun_refused (checkRecord_badCode hc hno), beginFlight, hcopy, h0]
    rfl

end Sys2Proof.Machine
end


section
/-! The Insert Queue: status writes, the issue of the oldest entry, and where a producer waits (R10 to R12, R15, R140). -/
namespace Sys2Proof.Machine

/-! ### Status writes (R11) -/

theorem coalesce_none {a : Nat} {v : Word} {es : List QEntry} (h : ∀ x ∈ es, x.addr ≠ a) : coalesce a v es = none := by
  induction es with
  | nil => rfl
  | cons e es ih =>
    rw [coalesce, ih fun x hx => h x (List.mem_cons_of_mem _ hx)]
    exact if_neg (h e List.mem_cons_self)

theorem coalesce_some {a : Nat} {v : Word} {pre post : List QEntry} {e : QEntry} (he : e.addr = a)
    (hpost : ∀ x ∈ post, x.addr ≠ a) :
    coalesce a v (pre ++ e :: post) = some (pre ++ { e with data := v } :: post) := by
  induction pre with
  | nil =>
    rw [List.nil_append, coalesce, coalesce_none hpost]
    exact if_pos he
  | cons x pre ih =>
    rw [List.cons_append, coalesce, ih]
    rfl

theorem giveStatus_coalesces {i : Inserts} {sel : BitVec 3} {n : Nat} {v : Word} {es : List QEntry}
    (h : coalesce (statusAddr sel n) v i.entries = some es) : i.giveStatus sel n v = { i with entries := es } := by
  rw [Inserts.giveStatus, h]

theorem giveStatus_room {i : Inserts} {sel : BitVec 3} {n : Nat} {v : Word}
    (h : ∀ x ∈ i.entries, x.addr ≠ statusAddr sel n) (hw : i.waits = []) (hlen : i.entries.length < 64) :
    i.giveStatus sel n v = i.push ⟨statusAddr sel n, v, .pathUnit, false⟩ := by
  have hroom : i.room = true := (room_iff i).mpr ⟨hlen, hw⟩
  rw [Inserts.giveStatus, coalesce_none h]
  dsimp only
  rw [hw, List.any_nil, if_neg Bool.false_ne_true, if_pos hroom]

/-- Settles O6: the newest entry of the word is the one that coalescing replaces. -/
theorem statusWritesCoalesceOrJoin : Obligations.StatusWritesCoalesceOrJoin := by
  refine ⟨fun i sel n v pre post e hes he hpost => ?_, fun i sel n v hno hw hlen => ?_⟩
  · refine giveStatus_coalesces ?_
    rw [hes]
    exact coalesce_some he hpost
  · rw [giveStatus_room hno hw hlen]
    rfl

/-! ### Issue (R12, R15, R140, R163) -/

/-- R15: the oldest entry has its turn. -/
theorem exec_insertIssue {e : QEntry} {es : List QEntry} {s : State} (hr : Awake s) (hes : s.ins.entries = e :: es)
    (hd : heldDue s = false) (hw : s.ins.waits = [] ∨ 64 ≤ s.ins.entries.length)
    (hread : readWaits s = false ∨ s.path.lastGrant = .insertedRead) :
    exec .insertIssue s = .next (finish s (issueHead s)) := by
  have hjoin : joinDue s = false := by
    refine Bool.eq_false_of_not_eq_true fun h => ?_
    obtain ⟨hlen, hne⟩ := joinDue_eq_true_iff.mp h
    exact hw.elim hne fun h64 => absurd hlen (Nat.not_lt.mpr h64)
  refine event_taken hr ?_
  rw [issueReady, hd, hjoin, hes]
  simpa using hread

theorem issueHead_plain {e : QEntry} {es : List QEntry} {s : State} (hes : s.ins.entries = e :: es) (hn : e.notify = false) :
    issueHead s = issued e es s := by
  rw [issueHead, hes]
  exact if_neg (by simp [hn])

theorem issueHead_notice {e : QEntry} {es : List QEntry} {k : Nat} {s : State} (hes : s.ins.entries = e :: es)
    (hn : e.notify = true) (hk : k < 8192) (ha : e.addr = recordAddr s.path.areaSel k 0) :
    issueHead s = headerIssued k (issued e es s) := by
  have hwin : windowOf s.path.areaSel e.addr = .record k 0 := by rw [ha, windowOf_record _ hk (by decide)]
  rw [issueHead, hes]
  dsimp only
  rw [hwin]
  exact if_pos hn

section
variable {k : Nat} {r : RecRow} {s : State}

theorem headerIssued_other (hr : s.rowOf k = some r) (hst : r.state ≠ .writing) : headerIssued k s = s := by
  rw [headerIssued, hr]
  exact if_neg hst

theorem headerIssued_stores (hr : s.rowOf k = some r) (hst : r.state = .writing)
    (hk : r.kind ≠ .summary ∨ s.route.state ≠ .closing) :
    headerIssued k s =
      { s with sm := { s.sm with slots := insertAt s.sm.slots k (.record { r with state := .stored }) } } := by
  rw [headerIssued, hr]
  dsimp only
  rw [if_pos hst, if_neg fun h => hk.elim (· h.1) (· h.2), modRow_some hr]

theorem headerIssued_completes (hr : s.rowOf k = some r) (hst : r.state = .writing) (hk : r.kind = .summary)
    (hc : s.route.state = .closing) :
    headerIssued k s =
      completeRoute
        { s with sm := { s.sm with slots := insertAt s.sm.slots k (.record { r with state := .stored }) } } := by
  rw [headerIssued, hr]
  dsimp only
  rw [if_pos hst, if_pos ⟨hk, hc⟩, modRow_some hr]

end

/-- No closed roster entry is without records. -/
theorem mem_rosterClose {ro : List RosterEntry} {x : RosterEntry} (h : x ∈ rosterClose ro) : x.isOpen = false ∧ x.count ≠ 0 := by
  obtain ⟨hmap, hcount⟩ := List.mem_filter.mp h
  obtain ⟨y, -, rfl⟩ := List.mem_map.mp hmap
  exact ⟨rfl, of_decide_eq_true hcount⟩

/-- Settles O39: an issue is `issued`, and a notice acts on the row of its slot. -/
theorem oldestEntryIsIssued : Obligations.OldestEntryIsIssued := by
  refine ⟨fun e es s hr hes hn hd hw hread => ?_, fun e es k r s hr hes hn hk ha hrow hkind hd hw hread => ?_,
    fun e es k r s hr hes hn hk ha hrow hst hkind hc hd hw hread => ?_, fun s hw hlen => ?_⟩
  · rw [exec_insertIssue hr hes hd hw hread, issueHead_plain hes hn]
    rfl
  · rw [exec_insertIssue hr hes hd hw hread, issueHead_notice hes hn hk ha]
    by_cases hst : r.state = .writing
    · rw [headerIssued_stores (s := issued e es s) hrow hst hkind, if_pos hst]
      rfl
    · rw [headerIssued_other (s := issued e es s) hrow hst, if_neg hst]
      rfl
  · rw [exec_insertIssue hr hes hd hw hread, issueHead_notice hes hn hk ha,
      headerIssued_completes (s := issued e es s) hrow hst hkind hc]
    exact ⟨_, rfl, rfl, rfl, rfl, rfl, rfl, rfl, rfl, rfl, rfl, rfl, rfl, rfl, rfl, rfl, rfl, rfl, fun x hx => mem_rosterClose hx⟩
  · exact event_not_taken (issueReady_of_joinDue (joinDue_eq_true_iff.mpr ⟨hlen, hw⟩))

end Sys2Proof.Machine
end


section
/-! Producers that wait, and the end of a command's flight (R10, R29, R31, R32). -/
namespace Sys2Proof.Machine

/-! ### Waiting (R10) -/

theorem isWaiting_iff (i : Inserts) (p : Producer) : i.isWaiting p = true ↔ ∃ x ∈ i.waits, x.1 = p := by
  simp [Inserts.isWaiting]

/-- A producer begins to wait behind the others. -/
theorem wait_new {i : Inserts} {p : Producer} (h : ∀ x ∈ i.waits, x.1 ≠ p) (q : QWrite) :
    i.wait p q = { i with waits := i.waits ++ [(p, [q])] } := by
  have hno : ¬i.isWaiting p = true := fun hw => by
    obtain ⟨x, hx, hp⟩ := (isWaiting_iff i p).mp hw
    exact h x hx hp
  rw [Inserts.wait, if_neg hno]

/-- What a waiting producer gives stands behind what it waits with. -/
theorem wait_behind {i : Inserts} {p : Producer} {pre post : List (Producer × List QWrite)} {qs : List QWrite}
    (hi : i.waits = pre ++ (p, qs) :: post) (h : ∀ x ∈ pre ++ post, x.1 ≠ p) (q : QWrite) :
    i.wait p q = { i with waits := pre ++ (p, qs ++ [q]) :: post } := by
  have hyes : i.isWaiting p = true := (isWaiting_iff i p).mpr ⟨(p, qs), by simp [hi], rfl⟩
  have hkeep : ∀ l : List (Producer × List QWrite), (∀ x ∈ l, x.1 ≠ p) →
      (l.map fun e => if e.1 = p then (p, e.2 ++ [q]) else e) = l := fun l hl =>
    (List.map_congr_left fun x hx => if_neg (hl x hx)).trans (List.map_id l)
  rw [Inserts.wait, if_pos hyes, hi, List.map_append, List.map_cons, if_pos rfl,
    hkeep pre fun x hx => h x (List.mem_append_left _ hx), hkeep post fun x hx => h x (List.mem_append_right _ hx)]

/-- No place is free for a producer. -/
def NoRoom (i : Inserts) : Prop := i.waits ≠ [] ∨ 64 ≤ i.entries.length

theorem room_of_noRoom {i : Inserts} (h : NoRoom i) : ¬i.room = true := by
  rw [room_iff]
  rintro ⟨hlen, hw⟩
  exact h.elim (· hw) fun h64 => absurd hlen (Nat.not_lt.mpr h64)

theorem giveWordOf_waits {i : Inserts} (h : NoRoom i) (e : QEntry) : giveWordOf i e = i.wait e.producer (wordWrite e) :=
  if_neg (room_of_noRoom h)

theorem giveResponse0_waits {i : Inserts} (h : NoRoom i) : i.giveResponse0 = i.wait .commandUnit .response0 :=
  if_neg (room_of_noRoom h)

theorem giveResponse0_room {i : Inserts} (hw : i.waits = []) (hlen : i.entries.length < 64) :
    i.giveResponse0 = { i with resp0 := true } := if_pos ((room_iff i).mpr ⟨hlen, hw⟩)

/-- The writes of a waiting producer stand in their order. -/
theorem foldl_giveWordOf_behind {p : Producer} {pre post : List (Producer × List QWrite)} (es : List QEntry)
    (hes : ∀ e ∈ es, e.producer = p) (h : ∀ x ∈ pre ++ post, x.1 ≠ p) : ∀ {i : Inserts} {qs : List QWrite},
    i.waits = pre ++ (p, qs) :: post →
    es.foldl giveWordOf i = { i with waits := pre ++ (p, qs ++ es.map wordWrite) :: post } := by
  induction es with
  | nil =>
    intro i qs hi
    rw [List.map_nil, List.append_nil, ← hi]
    rfl
  | cons e es ih =>
    intro i qs hi
    have hne : NoRoom i := .inl (by simp [hi])
    rw [List.foldl_cons, giveWordOf_waits hne, hes e List.mem_cons_self, wait_behind hi h,
      ih (fun x hx => hes x (List.mem_cons_of_mem _ hx)) rfl, List.map_cons, List.append_assoc]
    rfl

/-- Writes and word 0 of a response that find no place begin to wait together. -/
theorem giveWords_response0_waits {es : List QEntry} {i : Inserts} (hes : ∀ e ∈ es, e.producer = .commandUnit)
    (hfull : NoRoom i) (hno : ∀ x ∈ i.waits, x.1 ≠ .commandUnit) :
    (es.foldl giveWordOf i).giveResponse0 =
      { i with waits := i.waits ++ [(.commandUnit, es.map wordWrite ++ [.response0])] } := by
  cases es with
  | nil =>
    rw [List.foldl_nil, giveResponse0_waits hfull, wait_new hno]
    rfl
  | cons e es =>
    have hothers : ∀ x ∈ i.waits ++ [], x.1 ≠ .commandUnit := by simpa using hno
    rw [List.foldl_cons, giveWordOf_waits hfull, hes e List.mem_cons_self, wait_new hno,
      foldl_giveWordOf_behind (p := .commandUnit) (pre := i.waits) (post := []) (qs := [wordWrite e]) es
        (fun x hx => hes x (List.mem_cons_of_mem _ hx)) hothers rfl,
      giveResponse0_waits (.inl (by simp)), wait_behind (p := .commandUnit) (pre := i.waits) (post := []) rfl hothers]
    rfl

/-! ### A response (R31) -/

/-- The entries that words 1 to 7 of a response become. -/
def responseEntries (sel : BitVec 3) (results : List Word) : List QEntry :=
  [1, 2, 3, 4, 5, 6, 7].map fun w => ⟨responseAddr sel w, results.getD (w - 1) 0, .commandUnit, false⟩

theorem responseEntries_producer {sel : BitVec 3} {results : List Word} :
    ∀ e ∈ responseEntries sel results, e.producer = .commandUnit := by
  intro e he
  obtain ⟨w, -, rfl⟩ := List.mem_map.mp he
  rfl

theorem length_responseEntries (sel : BitVec 3) (results : List Word) : (responseEntries sel results).length = 7 := rfl

theorem giveResponse_eq {t : State} {code tag : Byte} {r : Response} (h : t.cmd.running = some ⟨code, tag, some r⟩)
    (i : Inserts) :
    giveResponse t i = ((responseEntries t.path.areaSel r.results).foldl giveWordOf i).giveResponse0 := by
  rw [giveResponse, h]
  rfl

section
variable {t : State} {i : Inserts} {code tag : Byte} {r : Response}

theorem giveResponse_room (h : t.cmd.running = some ⟨code, tag, some r⟩) (hw : i.waits = []) (hlen : i.entries.length + 7 < 64) :
    (giveResponse t i).entries = i.entries ++ responseEntries t.path.areaSel r.results ∧ (giveResponse t i).resp0 = true := by
  have hfit : i.entries.length + (responseEntries t.path.areaSel r.results).length ≤ 64 := by
    rw [length_responseEntries]
    omega
  obtain ⟨b, hb⟩ := foldl_giveWordOf_room (responseEntries t.path.areaSel r.results) hw hfit
  have hroom : (i.entries ++ responseEntries t.path.areaSel r.results).length < 64 := by
    rwa [List.length_append, length_responseEntries]
  rw [giveResponse_eq h, hb, giveResponse0_room
    (i := { i with entries := i.entries ++ responseEntries t.path.areaSel r.results, throttle := b }) hw hroom]
  exact ⟨rfl, rfl⟩

theorem giveResponse_full (h : t.cmd.running = some ⟨code, tag, some r⟩) (hfull : NoRoom i)
    (hno : ∀ x ∈ i.waits, x.1 ≠ .commandUnit) :
    giveResponse t i =
      { i with
        waits :=
          i.waits ++ [(.commandUnit, (responseEntries t.path.areaSel r.results).map wordWrite ++ [.response0])] } := by
  rw [giveResponse_eq h, giveWords_response0_waits responseEntries_producer hfull hno]

/-- The first `n` words take the places left, and the others begin to wait. -/
theorem giveResponse_partly (h : t.cmd.running = some ⟨code, tag, some r⟩) {n : Nat} (hn : n ≤ 7) (hw : i.waits = [])
    (hlen : i.entries.length + n = 64) :
    ∃ b, giveResponse t i =
      { i with
        entries := i.entries ++ (responseEntries t.path.areaSel r.results).take n
        throttle := b
        waits :=
          [(.commandUnit, ((responseEntries t.path.areaSel r.results).drop n).map wordWrite ++ [.response0])] } := by
  have htaken : ((responseEntries t.path.areaSel r.results).take n).length = n := by
    rw [List.length_take, length_responseEntries]
    omega
  obtain ⟨b, hb⟩ := foldl_giveWordOf_room ((responseEntries t.path.areaSel r.results).take n) hw (by rw [htaken, hlen])
  have hfull : NoRoom { i with
      entries := i.entries ++ (responseEntries t.path.areaSel r.results).take n, throttle := b } := by
    refine .inr ?_
    show 64 ≤ (i.entries ++ (responseEntries t.path.areaSel r.results).take n).length
    rw [List.length_append, htaken, hlen]
  refine ⟨b, ?_⟩
  rw [giveResponse_eq h, ← List.take_append_drop n (responseEntries _ _), List.foldl_append, hb,
    giveWords_response0_waits (fun e he => responseEntries_producer e (List.mem_of_mem_drop he)) hfull (by simp [hw]), hw,
    List.take_append_drop]
  rfl

end

/-! ### COMMAND_FLIGHT_END (R32) -/

theorem response0Word_eq {c : Command} {code tag : Byte} {r : Response} (h : c.running = some ⟨code, tag, some r⟩) :
    response0Word c =
      tag.setWidth 32 ||| (code.setWidth 32 <<< 8) ||| (r.status.setWidth 32 <<< 16) ||| flag c.collision 24 |||
        flag r.notCleared 25 := by
  rw [response0Word, h]
  dsimp only
  rw [responseWord0, place_zero]
  rfl

theorem exec_commandFlightEnd {s : State} (hr : Awake s)
    (h : (s.ins.resp0 || (placeFree s && response0First s)) = true) :
    exec .commandFlightEnd s = .next (finish s (flightEnd s)) := event_taken hr h

theorem flightEnd_room {s : State} (h0 : s.ins.resp0 = true) (hw : s.ins.waits = []) (hlen : s.ins.entries.length < 64) :
    flightEnd s = endFlight s := (if_pos h0).trans (if_pos ((room_iff s.ins).mpr ⟨hlen, hw⟩))

theorem flightEnd_waits {s : State} (h0 : s.ins.resp0 = true) (hfull : NoRoom s.ins) :
    flightEnd s = { s with ins := { s.ins with resp0 := false }.wait .commandUnit .response0 } :=
  (if_pos h0).trans (if_neg (room_of_noRoom hfull))

theorem flightEnd_joins {s : State} (h0 : s.ins.resp0 = false) : flightEnd s = joinHead s := if_neg (by simp [h0])

theorem waitAgain_nil (p : Producer) (s : State) : waitAgain p [] s = s := rfl

theorem joinHead_one {p : Producer} {q : QWrite} {others : List (Producer × List QWrite)} {s : State}
    (hw : s.ins.waits = (p, [q]) :: others) :
    joinHead s = joinWrite p q { s with ins := { s.ins with waits := others } } := by
  rw [joinHead, hw]
  exact waitAgain_nil _ _

theorem throttleAt_push (i : Inserts) (e : QEntry) :
    i.push e =
      { i with
        entries := i.entries ++ [e]
        throttle :=
          if 48 ≤ i.entries.length + 1 then true else if i.entries.length + 1 ≤ 32 then false else i.throttle } := by
  rw [Inserts.push, Inserts.withEntries, List.length_append]
  rfl

/-- The state that the end of the flight leaves, with word 0 of the response in the queue. -/
theorem endFlight_eq {w0 : Word} {s : State} (h : response0Word s.cmd = w0) :
    endFlight s =
      { s with
        ins := { s.ins.push ⟨responseAddr s.path.areaSel 0, w0, .commandUnit, false⟩ with resp0 := false }
        cmd := { s.cmd with inFlight := false, collision := false, running := none }
        ev := s.ev.occur .commandDone } := by
  rw [endFlight, h]
  rfl

/-- Settles O38: word 0 joins, or begins to wait, by `flightEnd_…`; the response's words by `giveResponse_…`. -/
theorem responseEndsTheFlight : Obligations.ResponseEndsTheFlight := by
  refine ⟨fun code tag r w0 s hr hrun hw0 => ⟨fun h0 hlen hw => ?_, fun h0 hfull => ⟨fun hno => ?_, fun pre qs post hw hno => ?_⟩,
      fun others h0 hlen hw => ?_⟩,
    fun t i code tag r hrun hw hlen => giveResponse_room hrun hw hlen,
    fun t i code tag r word hrun hword => ⟨fun hfull hno => ?_, fun n hn hw hlen => ?_⟩⟩
  · have hword : response0Word s.cmd = w0 := (response0Word_eq hrun).trans hw0.symm
    rw [exec_commandFlightEnd hr (by simp [h0]), flightEnd_room h0 hw hlen, endFlight_eq hword, throttleAt_push]
  · rw [exec_commandFlightEnd hr (by simp [h0]), flightEnd_waits h0 hfull.symm,
      wait_new (i := { s.ins with resp0 := false }) hno]
  · rw [exec_commandFlightEnd hr (by simp [h0]), flightEnd_waits h0 hfull.symm,
      wait_behind (i := { s.ins with resp0 := false }) hw hno]
  · have hword : response0Word s.cmd = w0 := (response0Word_eq hrun).trans hw0.symm
    have hcan : (s.ins.resp0 || (placeFree s && response0First s)) = true := by
      have hfree : placeFree s = true := decide_eq_true hlen
      have hfirst : response0First s = true := by rw [response0First, hw]
      rw [h0, hfree, hfirst]
      rfl
    rw [exec_commandFlightEnd hr hcan, flightEnd_joins h0, joinHead_one hw]
    show Host.Outcome.next (finish s (endFlight { s with ins := { s.ins with waits := others } })) = _
    rw [endFlight_eq (s := { s with ins := { s.ins with waits := others } }) hword, throttleAt_push, ← h0]
  · rw [giveResponse_full hrun hfull hno, hword]
    rfl
  · obtain ⟨b, hb⟩ := giveResponse_partly hrun hn hw hlen
    rw [hb, hword]
    refine ⟨?_, ?_, rfl⟩
    · rw [responseEntries, List.map_take]
    · rw [responseEntries, ← List.map_drop, List.map_map]
      rfl

end Sys2Proof.Machine
end


section
/-! The writes of an event join the Insert Queue in order (R10, R20). -/
namespace Sys2Proof.Machine

/-! ### Nothing is held back -/

/-- No write of the queue is held back behind another. -/
structure Settled (i : Inserts) : Prop where
  body : i.heldBody = none
  locks : i.laterLocks = []
  acks : i.ackFifo = []

theorem settle_settled (t : State) {i : Inserts} (h : Settled i) : settle t i = i := by
  obtain ⟨hb, hl, ha⟩ := h
  have hbody : releaseBody t i = i := by rw [releaseBody, hb]
  have hlocks : releaseLocks t i = i := by
    rw [releaseLocks, hl, List.foldl_nil, ← hl]
  rw [settle, hbody, hlocks, ha, drainAcks, ← ha]

/-! ### What a write leaves of the word at `a` -/

/-- From `i` to `j` the entries of the word at `a` stay, no producer stops waiting, and nothing is held back anew. -/
structure KeepsWord (a : Nat) (i j : Inserts) : Prop where
  entries : j.entries.filter (fun e => decide (e.addr = a)) = i.entries.filter (fun e => decide (e.addr = a))
  waits : ∀ w ∈ i.waits, ∃ w' ∈ j.waits, w'.1 = w.1 ∧ ∀ q ∈ w.2, q ∈ w'.2
  settled : Settled i → Settled j

section
variable {a : Nat} {i j k : Inserts}

theorem KeepsWord.refl (a : Nat) (i : Inserts) : KeepsWord a i i := ⟨rfl, fun w hw => ⟨w, hw, rfl, fun _ h => h⟩, id⟩

theorem KeepsWord.trans (h : KeepsWord a i j) (h' : KeepsWord a j k) : KeepsWord a i k := by
  refine ⟨h'.entries.trans h.entries, fun w hw => ?_, fun hs => h'.settled (h.settled hs)⟩
  obtain ⟨w', hw', hp, hq⟩ := h.waits w hw
  obtain ⟨w'', hw'', hp', hq'⟩ := h'.waits w' hw'
  exact ⟨w'', hw'', hp'.trans hp, fun q h => hq' q (hq q h)⟩

theorem keepsWord_push {e : QEntry} (h : e.addr ≠ a) : KeepsWord a i (i.push e) := by
  refine ⟨?_, fun w hw => ⟨w, hw, rfl, fun _ h => h⟩, fun hs => ⟨hs.body, hs.locks, hs.acks⟩⟩
  show (i.entries ++ [e]).filter _ = _
  rw [List.filter_append, List.filter_singleton, decide_eq_false h]
  exact List.append_nil _

theorem keepsWord_wait (a : Nat) (i : Inserts) (p : Producer) (q : QWrite) : KeepsWord a i (i.wait p q) := by
  refine ⟨rfl, fun w hw => ?_, fun hs => ⟨hs.body, hs.locks, hs.acks⟩⟩
  unfold Inserts.wait
  split_ifs with hp
  · refine ⟨_, List.mem_map_of_mem hw, ?_⟩
    split_ifs with hw1
    · exact ⟨hw1.symm, fun q h => List.mem_append_left _ h⟩
    · exact ⟨rfl, fun _ h => h⟩
  · exact ⟨w, List.mem_append_left _ hw, rfl, fun _ h => h⟩

theorem keepsWord_giveWord {b : Nat} (hb : b ≠ a) (p : Producer) (data : Word) (notify : Bool) :
    KeepsWord a i (i.giveWord p b data notify) := by
  unfold Inserts.giveWord
  split_ifs
  · exact keepsWord_push hb
  · exact keepsWord_wait _ _ _ _

theorem coalesce_filter {b : Nat} {v : Word} (hb : b ≠ a) {es es' : List QEntry} (h : coalesce b v es = some es') :
    es'.filter (fun e => decide (e.addr = a)) = es.filter fun e => decide (e.addr = a) := by
  induction es generalizing es' with
  | nil => exact nomatch h
  | cons e es ih =>
    unfold coalesce at h
    cases hes : coalesce b v es with
    | some rest =>
      rw [hes] at h
      obtain rfl := Option.some.inj h
      rw [List.filter_cons, List.filter_cons, ih hes]
    | none =>
      rw [hes] at h
      obtain ⟨he, h⟩ := Option.ite_none_right_eq_some.mp h
      obtain rfl := Option.some.inj h
      have hne : decide (e.addr = a) = false := decide_eq_false (he ▸ hb)
      rw [List.filter_cons, List.filter_cons]
      simp only [hne, Bool.false_eq_true, if_false]

theorem keepsWord_giveStatus {sel : BitVec 3} {m : Nat} (h : statusAddr sel m ≠ a) (v : Word) :
    KeepsWord a i (i.giveStatus sel m v) := by
  cases hc : coalesce (statusAddr sel m) v i.entries with
  | some es =>
    rw [giveStatus_coalesces hc]
    exact ⟨coalesce_filter h hc, fun w hw => ⟨w, hw, rfl, fun _ h => h⟩, fun hs => ⟨hs.body, hs.locks, hs.acks⟩⟩
  | none =>
    rw [Inserts.giveStatus, hc]
    dsimp only
    split_ifs
    · exact .refl _ _
    · exact keepsWord_push h
    · exact keepsWord_wait _ _ _ _

end

/-! ### A status write that is given shows in the queue -/

/-- The queue holds `v` as the newest data of word `n` of the Status Page, or the write of that word waits. -/
def Shown (sel : BitVec 3) (n : Nat) (v : Word) (i : Inserts) : Prop :=
  (∃ e, i.newest (statusAddr sel n) = some e ∧ e.data = v) ∨ ∃ w ∈ i.waits, w.1 = .pathUnit ∧ QWrite.status n ∈ w.2

theorem newestIn_filter (a : Nat) (es : List QEntry) : newestIn a es = (es.filter fun e => decide (e.addr = a)).getLast? := by
  induction es using List.reverseRecOn with
  | nil => rfl
  | append_singleton es e ih =>
    rw [newestIn_concat, List.filter_append, List.filter_singleton]
    by_cases h : e.addr = a
    · simp [h]
    · simp [h, ih]

theorem Shown.keep {sel : BitVec 3} {n : Nat} {v : Word} {i j : Inserts} (h : Shown sel n v i)
    (hk : KeepsWord (statusAddr sel n) i j) : Shown sel n v j := by
  rcases h with ⟨e, he, hd⟩ | ⟨w, hw, hp, hq⟩
  · rw [newest_eq_newestIn, newestIn_filter] at he
    exact .inl ⟨e, by rw [newest_eq_newestIn, newestIn_filter, hk.entries, he], hd⟩
  · obtain ⟨w', hw', hp', hq'⟩ := hk.waits w hw
    exact .inr ⟨w', hw', hp'.trans hp, hq' _ hq⟩

theorem coalesce_newest {a : Nat} {v : Word} {es es' : List QEntry} (h : coalesce a v es = some es') :
    ∃ e, newestIn a es' = some e ∧ e.data = v := by
  cases hn : newestIn a es with
  | none =>
    rw [coalesce_none ((newestIn_eq_none_iff a es).mp hn)] at h
    exact nomatch h
  | some e =>
    obtain ⟨pre, post, rfl, ha, hpost⟩ := (newestIn_eq_some_iff a es e).mp hn
    rw [coalesce_some ha hpost] at h
    obtain rfl := Option.some.inj h
    exact ⟨{ e with data := v }, (newestIn_eq_some_iff a _ _).mpr ⟨pre, post, rfl, ha, hpost⟩, rfl⟩

theorem wait_status (i : Inserts) (n : Nat) : ∃ w ∈ (i.wait .pathUnit (.status n)).waits, w.1 = .pathUnit ∧ QWrite.status n ∈ w.2 := by
  unfold Inserts.wait
  split_ifs with h
  · obtain ⟨x, hx, hp⟩ := (isWaiting_iff i .pathUnit).mp h
    refine ⟨_, List.mem_map_of_mem hx, ?_⟩
    rw [if_pos hp]
    exact ⟨rfl, by simp⟩
  · exact ⟨_, List.mem_append_right _ List.mem_cons_self, rfl, List.mem_cons_self⟩

theorem giveStatus_shown (i : Inserts) (sel : BitVec 3) (n : Nat) (v : Word) : Shown sel n v (i.giveStatus sel n v) := by
  cases hc : coalesce (statusAddr sel n) v i.entries with
  | some es =>
    rw [giveStatus_coalesces hc]
    exact .inl (coalesce_newest hc)
  | none =>
    rw [Inserts.giveStatus, hc]
    dsimp only
    split_ifs with hw
    · obtain ⟨w, hw, hp⟩ := List.any_eq_true.mp hw
      obtain ⟨hp, hq⟩ := Bool.and_eq_true_iff.mp hp
      exact .inr ⟨w, hw, of_decide_eq_true hp, List.contains_iff_mem.mp hq⟩
    · exact .inl ⟨_, newestIn_append_same (es := i.entries) rfl, rfl⟩
    · exact .inr (wait_status i n)

theorem settled_giveStatus (i : Inserts) (sel : BitVec 3) (n : Nat) (v : Word) (h : Settled i) :
    Settled (i.giveStatus sel n v) :=
  (keepsWord_giveStatus (Nat.succ_ne_self (statusAddr sel n)).symm v).settled h

/-! ### The writes of an event -/

theorem mem_placedAt {α : Type} {k : Nat} {q x : α} {l : List α} : x ∈ placedAt k q l ↔ x = q ∨ x ∈ l := by
  unfold placedAt
  split_ifs
  · simp [or_comm]
  · have hl := List.take_append_drop (k - 1) l
    have hmem : x ∈ l ↔ x ∈ l.take (k - 1) ∨ x ∈ l.drop (k - 1) := by rw [← List.mem_append, hl]
    rw [List.mem_append, List.mem_cons, hmem]
    tauto

theorem mem_interleave {α : Type} {x : α} : ∀ {ties : List Nat} {qs l : List α}, x ∈ interleave ties qs l ↔ x ∈ qs ∨ x ∈ l
  | _, [], l => by simp [interleave]
  | ties, q :: qs, l => by
    rw [interleave, mem_interleave (qs := qs), mem_placedAt, List.mem_cons]
    tauto

theorem mem_changedStatus (s t : State) (n : Nat) : n ∈ changedStatus s t ↔ n < 32 ∧ statusWord s n ≠ statusWord t n := by
  rw [changedStatus, List.mem_filter, List.mem_range, bne_iff_ne]

theorem statusAddr_ne (sel : BitVec 3) {m n : Nat} (h : m ≠ n) : statusAddr sel m ≠ statusAddr sel n := by
  unfold statusAddr
  omega

/-- What an event gives one after another: its words, its status writes, and the settling. -/
inductive EventWrite (t : State) (a : Nat) (status : List Nat) : Option (Producer × QWrite) → Prop
  | settling : EventWrite t a status none
  | word {p b data notify} (hb : b ≠ a) : EventWrite t a status (some (p, .word b data notify))
  | status {m} (hm : m ∈ status) : EventWrite t a status (some (.pathUnit, .status m))

theorem giveNext_keeps {t : State} {a : Nat} {i : Inserts} {status : List Nat} {x : Option (Producer × QWrite)}
    (hs : Settled i) (hx : EventWrite t a status x)
    (hno : ∀ m, x = some (.pathUnit, .status m) → statusAddr t.path.areaSel m ≠ a) : KeepsWord a i (giveNext t i x) := by
  cases hx with
  | settling =>
    rw [giveNext, settle_settled t hs]
    exact .refl _ _
  | word hb => exact keepsWord_giveWord hb _ _ _
  | status hm => exact keepsWord_giveStatus (hno _ rfl) _

section
variable {s t : State} {ws : List (Producer × Nat × Word)}

/-- The queue as an event's writes find it. -/
def emptied (s t : State) : Inserts := { t.ins with outbox := [], ties := t.ins.ties.drop (changedStatus s t).length }

/-- What the event from `s` to `t` gives, in order. -/
def eventWrites (s t : State) : List (Option (Producer × QWrite)) :=
  interleave t.ins.ties ((changedStatus s t).map fun n => some (.pathUnit, .status n)) (t.ins.outbox.map some ++ [none])

theorem finish_ins_eq (s t : State) : (finish s t).ins = (eventWrites s t).foldl (giveNext t) (emptied s t) := by
  simp only [finish_ins, finishInserts, eventWrites, emptied]

theorem eventWrite_of_mem {a : Nat} (hout : t.ins.outbox = ws.map fun w => (w.1, QWrite.word w.2.1 w.2.2 false))
    (ha : ∀ w ∈ ws, w.2.1 ≠ a) {x : Option (Producer × QWrite)} (hx : x ∈ eventWrites s t) :
    EventWrite t a (changedStatus s t) x := by
  rcases mem_interleave.mp hx with hx | hx
  · obtain ⟨m, hm, rfl⟩ := List.mem_map.mp hx
    exact .status hm
  · rcases List.mem_append.mp hx with hx | hx
    · rw [hout, List.map_map] at hx
      obtain ⟨w, hw, rfl⟩ := List.mem_map.mp hx
      exact .word (ha w hw)
    · rw [List.mem_singleton.mp hx]
      exact .settling

end

/-- A status write among an event's writes shows in the queue at the event's end. -/
theorem foldl_giveNext_shown {t : State} {n : Nat} {status : List Nat} {l : List (Option (Producer × QWrite))} {i : Inserts}
    (hs : Settled i) (hl : ∀ x ∈ l, EventWrite t (statusAddr t.path.areaSel n) status x)
    (hn : some (Producer.pathUnit, QWrite.status n) ∈ l) :
    Shown t.path.areaSel n (statusWord t n) (l.foldl (giveNext t) i) := by
  have hstep : ∀ j x, Settled j → x ∈ l → Settled (giveNext t j x) ∧
      (Shown t.path.areaSel n (statusWord t n) j ∨ x = some (.pathUnit, .status n) →
        Shown t.path.areaSel n (statusWord t n) (giveNext t j x)) := fun j x hj hx => by
    by_cases hxn : x = some (.pathUnit, .status n)
    · subst hxn
      exact ⟨settled_giveStatus _ _ _ _ hj, fun _ => giveStatus_shown _ _ _ _⟩
    · have hk := giveNext_keeps hj (hl x hx) fun m hm => statusAddr_ne _ fun hmn => hxn (hmn ▸ hm)
      exact ⟨hk.settled hj, fun h => (h.resolve_right hxn).keep hk⟩
  obtain ⟨l1, l2, rfl⟩ := List.append_of_mem hn
  rw [List.foldl_append, List.foldl_cons]
  have h1 : Settled (l1.foldl (giveNext t) i) :=
    List.foldlRecOn l1 _ hs fun j hj x hx => (hstep j x hj (List.mem_append_left _ hx)).1
  obtain ⟨hs2, hshown⟩ := hstep _ _ h1 (List.mem_append_right _ List.mem_cons_self)
  refine (List.foldlRecOn (motive := fun j => Settled j ∧ Shown t.path.areaSel n (statusWord t n) j) l2 _
    ⟨hs2, hshown (.inr rfl)⟩ fun j hj x hx => ?_).2
  obtain ⟨hsj, hj'⟩ := hstep j x hj.1 (List.mem_append_right _ (List.mem_cons_of_mem _ hx))
  exact ⟨hsj, hj' (.inl hj.2)⟩

theorem foldl_giveNext_keeps {t : State} {a : Nat} {status : List Nat} {l : List (Option (Producer × QWrite))} {i : Inserts}
    (hs : Settled i) (hl : ∀ x ∈ l, EventWrite t a status x) (hno : ∀ m ∈ status, statusAddr t.path.areaSel m ≠ a) :
    KeepsWord a i (l.foldl (giveNext t) i) := by
  refine List.foldlRecOn l _ (KeepsWord.refl a i) fun j hj x hx => hj.trans ?_
  refine giveNext_keeps (hj.settled hs) (hl x hx) fun m hm => ?_
  have hwrite := hl x hx
  rw [hm] at hwrite
  cases hwrite with
  | status hmem => exact hno m hmem

/-! ### INSERT_QUEUE_JOIN (R10) -/

theorem exec_insertQueueJoin {s : State} (hr : Awake s) (hlen : s.ins.entries.length < 64) (hw : s.ins.waits ≠ []) :
    exec .insertQueueJoin s = .next (finish s (joinHead s)) := event_taken hr (joinDue_eq_true_iff.mpr ⟨hlen, hw⟩)

/-- A producer with a further write begins to wait anew, behind the others. -/
theorem joinHead_more {p : Producer} {q : QWrite} {b : Nat} {x : Word} {n : Bool} {qs : List QWrite}
    {others : List (Producer × List QWrite)} {s t : State} (hw : s.ins.waits = (p, q :: .word b x n :: qs) :: others)
    (ht : joinWrite p q { s with ins := { s.ins with waits := others } } = t) :
    joinHead s = { t with ins := { t.ins with waits := t.ins.waits ++ [(p, .word b x n :: qs)] } } := by
  rw [joinHead, hw]
  dsimp only
  rw [ht]
  rfl

/-- Settles O5: the writes of an event are given by `eventWrites`, and each leaves the others' words as they are. -/
theorem writesJoinTheQueueInOrder : Obligations.WritesJoinTheQueueInOrder := by
  refine ⟨fun s t ws hst hw hb hl ha hout hlen => ?_, fun p a data notify others s hr hlen => ⟨fun hw => ?_, fun b x n qs hw => ?_⟩,
    mem_changedStatus, fun s t ws n a hb hl ha hout hws hn haddr => ?_, fun n others s hr hlen hw => ?_⟩
  · have hfit : t.ins.entries.length + (ws.map fun w => (⟨w.2.1, w.2.2, w.1, false⟩ : QEntry)).length ≤ 64 := by
      rwa [List.length_map]
    obtain ⟨b, hgiven⟩ := foldl_giveWordOf_room (i := { t.ins with outbox := [] }) _ hw hfit
    rw [List.foldl_map] at hgiven
    rw [finish_ins, finishInserts_of_unchanged hst, hout, List.foldl_map]
    have hfold : ws.foldl (fun j w => giveOne t j w.1 (.word w.2.1 w.2.2 false)) { t.ins with outbox := [] } = _ := hgiven
    rw [hfold]
    refine ⟨congrArg Inserts.entries (settle_settled t ?_), (congrArg Inserts.waits (settle_settled t ?_)).trans hw⟩
    · exact ⟨hb, hl, ha⟩
    · exact ⟨hb, hl, ha⟩
  · rw [exec_insertQueueJoin hr hlen (by simp [hw]), joinHead_one hw]
    rfl
  · rw [exec_insertQueueJoin hr hlen (by simp [hw]), joinHead_more hw rfl]
    rfl
  · subst haddr
    have hs : Settled (emptied s t) := ⟨hb, hl, ha⟩
    have hl : ∀ x ∈ eventWrites s t, EventWrite t (statusAddr t.path.areaSel n) (changedStatus s t) x :=
      fun x hx => eventWrite_of_mem hout (fun w hwm => hws w hwm n hn) hx
    rw [finish_ins_eq]
    refine ⟨fun hne => foldl_giveNext_shown hs hl (mem_interleave.mpr (.inl ?_)), fun heq => ?_⟩
    · exact List.mem_map.mpr ⟨n, (mem_changedStatus s t n).mpr ⟨hn, hne⟩, rfl⟩
    · refine (foldl_giveNext_keeps hs hl fun m hm => statusAddr_ne _ fun hmn => ?_).entries
      subst hmn
      exact ((mem_changedStatus s t m).mp hm).2 heq
  · rw [exec_insertQueueJoin hr hlen (by simp [hw]), joinHead_one hw]
    rfl

end Sys2Proof.Machine
end


section
/-! Causes, the Tamper List and re-locks (R109 to R119). -/
namespace Sys2Proof.Machine

/-! ### Which causes a burst and a confirmation show (R109, R110) -/

theorem causeIf_iff {b : Bool} {p : Prop} [Decidable p] (h : b = true ↔ p) (c : Byte) : causeIf b c = if p then c else 0 :=
  if_congr h rfl rfl

theorem distance_iff (d : Half) : (d == 0 || d.msb) = true ↔ d.toNat = 0 ∨ 32768 ≤ d.toNat := by
  rw [Bool.or_eq_true, beq_iff_eq, BitVec.msb_eq_decide, decide_eq_true_eq]
  bv_omega

theorem burstCauses_eq (img : MeterImage) (tc flags : Byte) (counter : Half) :
    burstCauses img tc flags counter =
      ((if flags &&& 0x0F#8 = 0 then 0 else 0x01#8) ||| (if tc = img.typeCode then 0 else 0x02#8) |||
        (if img.hasCounter = true ∧ ((counter - img.refCounter).toNat = 0 ∨ 32768 ≤ (counter - img.refCounter).toNat)
          then 0x04#8 else 0)) := by
  have hcounter := (Bool.and_eq_true_iff (x := img.hasCounter)).trans
    (and_congr_right fun _ => distance_iff (counter - img.refCounter))
  unfold burstCauses
  dsimp only
  rw [causeIf_iff (bne_iff_ne (a := flags &&& 0x0F#8) (b := 0)), causeIf_iff (bne_iff_ne (a := tc)), causeIf_iff hcounter,
    ite_not, ite_not]
  rfl

section
variable {img : MeterImage} {r : Reading} {th : Thresholds}

theorem confirmCauses_unit (h : r.unit ≠ img.refReading.unit) : confirmCauses img r th = 0 := if_pos h

theorem confirmCauses_rollback (hu : r.unit = img.refReading.unit) (hv : r.value.toNat < img.refReading.value.toNat) :
    confirmCauses img r th = 0x08#8 := (if_neg (not_not_intro hu)).trans (if_pos hv)

theorem confirmCauses_rise {rise limit : Nat} (hu : r.unit = img.refReading.unit)
    (hv : img.refReading.value.toNat + rise = r.value.toNat)
    (hl : limit = if img.maxDelta ≠ 0 then img.maxDelta.toNat else th.excess.toNat) :
    confirmCauses img r th =
      ((if limit ≠ 0 ∧ limit < rise then 0x10#8 else 0) |||
        (if img.mustConsume = true ∧ rise < th.low.toNat then 0x20#8 else 0)) := by
  have hrise : (r.value - img.refReading.value).toNat = rise := by bv_omega
  have hnot : ¬r.value < img.refReading.value := by
    show ¬r.value.toNat < img.refReading.value.toNat
    omega
  unfold confirmCauses
  dsimp only
  rw [if_neg (not_not_intro hu), if_neg hnot, hrise, ← hl]
  rw [causeIf_iff (p := limit ≠ 0 ∧ limit < rise) (by simp), causeIf_iff (p := img.mustConsume = true ∧ rise < th.low.toNat) (by simp)]
  rfl

end

/-! ### Additions to the Tamper List (R112, R118, R119) -/

theorem createTamper_eq (e : TamperEntry) (s : State) :
    createTamper e s =
      raise .tamper
        { s with
          tamper :=
            if s.tamper.list.length < 128 then { s.tamper with list := s.tamper.list ++ [e] }
            else { s.tamper with overflow := satInc s.tamper.overflow } } := rfl

theorem mergeTamper_eq (id : Word) (new : Byte) (s : State) :
    mergeTamper id new s =
      { s with
        tamper :=
          { s.tamper with
            list :=
              s.tamper.list.map fun e =>
                if e.route = s.route.number ∧ e.meter = id ∧ e.slot = none then { e with causes := e.causes ||| new } else e } } := by
  unfold mergeTamper
  simp only [awaits_iff]

/-- The entry's causes with `new` added. -/
def addedCauses (i : Nat) (new : Byte) (s : State) : State :=
  { s with dir := s.dir.modify i fun x => { x with causes := x.causes ||| new } }

section
variable {i : Nat} {set new : Byte} {m : Meter} {s : State}

theorem addCauses_old (hm : s.dir[i]? = some m) (hn : new = set &&& ~~~m.causes) (h0 : new = 0) : addCauses i set s = s := by
  rw [addCauses, hm]
  exact if_pos (hn ▸ h0)

theorem addCauses_create (hm : s.dir[i]? = some m) (hn : new = set &&& ~~~m.causes) (h0 : new ≠ 0) (hf : m.first = none)
    (hc : m.causes = 0) :
    addCauses i set s = createTamper ⟨s.route.number, m.img.id, new, none⟩ (addedCauses i new s) := by
  rw [addCauses, hm]
  dsimp only
  rw [← hn, if_neg h0, hf]
  exact if_pos hc

theorem addCauses_merge (hm : s.dir[i]? = some m) (hn : new = set &&& ~~~m.causes) (h0 : new ≠ 0)
    (h : (m.first = none ∧ m.causes ≠ 0) ∨ (m.first ≠ none ∧ m.pendingNote = true)) :
    addCauses i set s = mergeTamper m.img.id new (addedCauses i new s) := by
  rw [addCauses, hm]
  dsimp only
  rw [← hn, if_neg h0]
  rcases h with ⟨hf, hc⟩ | ⟨hf, hp⟩
  · rw [hf]
    exact if_neg hc
  · obtain ⟨f, hf⟩ := Option.ne_none_iff_exists'.mp hf
    rw [hf]
    exact if_pos hp

/-- The entry with its new causes, as the addition finds it when it must lock the first record again. -/
def lateMeter (m : Meter) (new : Byte) : Meter := { m with causes := m.causes ||| new }

/-- R113: the NOTE requested and the entry made, before the first record is locked again. -/
def lateState (i : Nat) (m : Meter) (new : Byte) (s : State) : State :=
  createTamper ⟨s.route.number, m.img.id, m.causes ||| new, none⟩
    { s with
      dir := s.dir.modify i fun x => { x with causes := x.causes ||| new, pendingNote := true }
      sm := { s.sm with backlog := s.sm.backlog ++ [.note i] } }

theorem addCauses_late {f : FirstRecord} (hm : s.dir[i]? = some m) (hn : new = set &&& ~~~m.causes) (h0 : new ≠ 0)
    (hf : m.first = some f) (hp : m.pendingNote = false) :
    addCauses i set s = reLock (lateMeter m new) (lateState i m new s) := by
  have hdir : (s.dir.modify i fun x => { x with causes := x.causes ||| new }).modify i (fun x => { x with pendingNote := true }) =
      s.dir.modify i fun x => { x with causes := x.causes ||| new, pendingNote := true } := List.modify_modify_eq _ _ _ _
  have hnot : ¬(lateMeter m new).pendingNote = true := by
    show ¬m.pendingNote = true
    rw [hp]
    exact Bool.false_ne_true
  rw [addCauses, hm]
  dsimp only
  rw [← hn, if_neg h0]
  split
  · refine (if_neg hnot).trans ?_
    rw [lateState, ← hdir]
    rfl
  · rename_i hnone
    rw [hf] at hnone
    exact nomatch hnone

end

/-! ### The first record is locked again (R115, R116) -/

section
variable {m : Meter} {f : FirstRecord} {r : RecRow} {s : State}

theorem reLock_gone (hf : m.first = some f) (h : ∀ r, s.rowOf f.slot = some r → r.seq ≠ f.seq) : reLock m s = s := by
  rw [reLock, hf]
  dsimp only
  cases hr : s.rowOf f.slot with
  | none => rfl
  | some r => exact if_neg (h r hr)

/-- Slot `k`'s record locked. -/
def lockedRow (k : Nat) (r : RecRow) (s : State) : State :=
  { s with sm := { s.sm with slots := insertAt s.sm.slots k (.record { r with locked := true }) } }

theorem reLock_pending (hf : m.first = some f) (hr : s.rowOf f.slot = some r) (hseq : r.seq = f.seq)
    (hp : headerPending s f.slot = true) :
    reLock m s =
      { lockedRow f.slot r s with ins := { s.ins with laterLocks := s.ins.laterLocks ++ [f.slot] } } := by
  rw [reLock, hf]
  dsimp only
  rw [hr]
  dsimp only
  rw [if_pos hseq, if_pos hp, modRow_some hr]
  rfl

theorem reLock_gives (hf : m.first = some f) (hr : s.rowOf f.slot = some r) (hseq : r.seq = f.seq)
    (hp : headerPending s f.slot = false) :
    reLock m s =
      giveData .tamperUnit (recordAddr s.path.areaSel f.slot 0) (recordHeader r.kind true r.acked) (lockedRow f.slot r s) := by
  have hnow : headerNow (lockedRow f.slot r s) f.slot = recordHeader r.kind true r.acked :=
    headerNow_eq (r := { r with locked := true }) (rowOf_eq_some_iff.mpr (lookup_insertAt_same _ _ _))
  rw [← hnow, reLock, hf]
  dsimp only
  rw [hr]
  dsimp only
  rw [if_pos hseq, if_neg (by simp [hp]), modRow_some hr]
  rfl

end

theorem reLock_rest (m : Meter) (s : State) :
    (reLock m s).dir = s.dir ∧ (reLock m s).sm.backlog = s.sm.backlog ∧ (reLock m s).ev = s.ev ∧
      (reLock m s).tamper = s.tamper := by
  unfold reLock
  split
  · exact ⟨rfl, rfl, rfl, rfl⟩
  · split
    · exact ⟨rfl, rfl, rfl, rfl⟩
    · dsimp only
      split_ifs
      · simp
      · simp
      · exact ⟨rfl, rfl, rfl, rfl⟩

/-! ### Headers that are held back (R115) -/

theorem headerJoined_iff (t : State) (i : Inserts) (k : Nat) :
    headerJoined t i k = true ↔
      (∀ h, i.heldBody = some h → h.slot ≠ k) ∧
        ∀ e ∈ i.waits, e.1 = .storeManager → ∀ data notify, QWrite.word (recordAddr t.path.areaSel k 0) data notify ∉ e.2 := by
  have hwaits := (waitsWith_iff i .storeManager (recordAddr t.path.areaSel k 0)).not
  rw [headerJoined, Bool.and_eq_true, Bool.not_eq_true', ← Bool.not_eq_true, hwaits]
  push Not
  rw [and_comm]
  refine and_congr_left fun _ => ?_
  cases i.heldBody with
  | none => simp
  | some h => simp

theorem headerPending_iff (s : State) (k : Nat) :
    headerPending s k = true ↔
      (∃ r, s.rowOf k = some r ∧ r.state = .writing) ∧
        ((∃ h, s.ins.heldBody = some h ∧ h.slot = k) ∨
          ∃ e ∈ s.ins.waits, e.1 = .storeManager ∧
            ∃ data notify, QWrite.word (recordAddr s.path.areaSel k 0) data notify ∈ e.2) := by
  have hjoined := (headerJoined_iff s s.ins k).not
  push Not at hjoined
  unfold headerPending
  cases hr : s.rowOf k with
  | none => simp
  | some r =>
    dsimp only
    rw [Bool.and_eq_true, decide_eq_true_eq, Bool.not_eq_true', ← Bool.not_eq_true]
    refine and_congr (by simp) (hjoined.trans ?_)
    rw [imp_iff_not_or]
    push Not
    rfl

theorem releaseLocks_nil {t : State} {i : Inserts} (h : i.laterLocks = []) : releaseLocks t i = i := by
  rw [releaseLocks, h, List.foldl_nil, ← h]

theorem releaseLocks_concat {t : State} {i : Inserts} {pre : List Nat} {k : Nat} (h : i.laterLocks = pre ++ [k]) :
    releaseLocks t i =
      if headerJoined t (releaseLocks t { i with laterLocks := pre }) k then
        giveOne t (releaseLocks t { i with laterLocks := pre }) .tamperUnit (.header k)
      else
        { releaseLocks t { i with laterLocks := pre } with
          laterLocks := (releaseLocks t { i with laterLocks := pre }).laterLocks ++ [k] } := by
  rw [releaseLocks, h, List.foldl_append, List.foldl_cons, List.foldl_nil]
  rfl

/-- Settles O47: each addition of causes is a creation, a merge or a late addition; a late one locks the first record by
`reLock_…`. -/
theorem causesFollowTheirConditions : Obligations.CausesFollowTheirConditions := by
  refine ⟨fun img tc flags counter r th => ⟨burstCauses_eq img tc flags counter, confirmCauses_unit, confirmCauses_rollback,
      fun rise limit hu hv hl => confirmCauses_rise hu hv hl⟩,
    fun i set new m s base hm hn hbase => ⟨addCauses_old hm hn, fun h0 hf hc => ?_, fun h0 h => ?_, fun f h0 hf hp => ?_⟩,
    headerPending_iff, fun t i => ⟨releaseLocks_nil, fun pre k j hl hj => ?_, headerJoined_iff t i⟩⟩
  · rw [addCauses_create hm hn h0 hf hc, createTamper_eq, hbase]
    rfl
  · rw [addCauses_merge hm hn h0 h, mergeTamper_eq, hbase]
    rfl
  · refine ⟨_, addCauses_late hm hn h0 hf hp, ?_⟩
    obtain ⟨hdir, hback, hev, htam⟩ := reLock_rest (lateMeter m new) (lateState i m new s)
    refine ⟨hdir, hback, hev, htam, fun hgone => ?_, fun r hr hseq => ⟨?_, fun hpe => ?_, fun hpe => ?_⟩⟩
    · rw [reLock_gone (m := lateMeter m new) (s := lateState i m new s) hf hgone]
      exact ⟨rfl, rfl⟩
    · cases hpe : headerPending s f.slot with
      | true => rw [reLock_pending (m := lateMeter m new) (s := lateState i m new s) hf hr hseq hpe]; rfl
      | false => rw [reLock_gives (m := lateMeter m new) (s := lateState i m new s) hf hr hseq hpe]; rfl
    · rw [reLock_pending (m := lateMeter m new) (s := lateState i m new s) hf hr hseq hpe]
      rfl
    · rw [reLock_gives (m := lateMeter m new) (s := lateState i m new s) hf hr hseq hpe]
      rfl
  · rw [hj]
    exact releaseLocks_concat hl

end Sys2Proof.Machine
end


section
/-! TAMPER_ACK on an accepted header: what it acknowledges, and when its writes join (R115, R122 to R125). -/
namespace Sys2Proof.Machine

/-! ### Entries that change but keep their meter -/

theorem map_modify_of_eq {α β : Type} {g : α → β} {f : α → α} (h : ∀ x, g (f x) = g x) (l : List α) (i : Nat) :
    (l.modify i f).map g = l.map g := by
  refine List.ext_getElem? fun j => ?_
  rw [List.getElem?_map, List.getElem?_map, List.getElem?_modify]
  split_ifs
  · cases l[j]? <;> simp [h]
  · simp

theorem findMeter_eq (dir : List Meter) (id : Word) :
    findMeter dir id = (dir.map fun m => m.img.id).findIdx? fun x => decide (x = id) := by
  rw [List.findIdx?_map]
  rfl

theorem findMeter_modify {f : Meter → Meter} (h : ∀ x, (f x).img = x.img) (dir : List Meter) (i : Nat) (id : Word) :
    findMeter (dir.modify i f) id = findMeter dir id := by
  rw [findMeter_eq, findMeter_eq, map_modify_of_eq (g := fun m => m.img.id) fun x => congrArg MeterImage.id (h x)]

/-! ### One entry acknowledged (R123, R124) -/

/-- The header write that the acknowledgement of slot `k` gives. -/
def ackWrite (s : State) (k : Nat) : QWrite :=
  if headerPending s k then .header k
  else .word (recordAddr s.path.areaSel k 0) (((s.rowOf k).map fun r => headerWord r.kind r.locked true).getD 0) false

theorem headerNow_acked (k : Nat) (s : State) :
    headerNow (modRow k (fun r => { r with acked := true }) s) k =
      ((s.rowOf k).map fun r => headerWord r.kind r.locked true).getD 0 := by
  rw [headerNow, rowOf_modRow, if_pos rfl]
  cases s.rowOf k <;> rfl

theorem ackEntry_slot {s : State} {e : TamperEntry} {k : Nat} (h : e.slot = some k) :
    ackEntry s e =
      { modRow k (fun r => { r with acked := true }) s with
        ins := { s.ins with ackFifo := s.ins.ackFifo ++ [ackWrite s k] } } := by
  rw [ackEntry, h]
  dsimp only
  rw [headerNow_acked, modRow_path, modRow_ins]
  rfl

theorem ackEntry_meter {s : State} {e : TamperEntry} {i : Nat} (h : e.slot = none) (hi : findMeter s.dir e.meter = some i) :
    ackEntry s e = modMeter i (fun x => { x with ackPending := true }) s := by
  rw [ackEntry, h]
  dsimp only
  rw [hi]

theorem ackEntry_unknown {s : State} {e : TamperEntry} (h : e.slot = none) (hi : findMeter s.dir e.meter = none) :
    ackEntry s e = s := by
  rw [ackEntry, h]
  dsimp only
  rw [hi]

/-- An acknowledgement changes a row, the directory and the writes that wait. -/
theorem ackEntry_shape (s : State) (e : TamperEntry) :
    ∃ l d f, ackEntry s e = { s with sm := { s.sm with slots := l }, dir := d, ins := { s.ins with ackFifo := f } } := by
  cases hs : e.slot with
  | some k =>
    rw [ackEntry_slot hs]
    unfold modRow
    split
    · exact ⟨_, s.dir, _, rfl⟩
    · exact ⟨s.sm.slots, s.dir, _, rfl⟩
  | none =>
    cases hi : findMeter s.dir e.meter with
    | some i => exact ⟨s.sm.slots, _, s.ins.ackFifo, ackEntry_meter hs hi⟩
    | none => exact ⟨s.sm.slots, s.dir, s.ins.ackFifo, ackEntry_unknown hs hi⟩

theorem rowOf_ackEntry (s : State) (e : TamperEntry) (k : Nat) :
    (ackEntry s e).rowOf k = (s.rowOf k).map fun r => { r with acked := r.acked || decide (e.slot = some k) } := by
  cases hs : e.slot with
  | some j =>
    have hrow : (ackEntry s e).rowOf k = (modRow j (fun r => { r with acked := true }) s).rowOf k := by
      rw [ackEntry_slot hs]
      rfl
    rw [hrow, rowOf_modRow]
    by_cases hj : k = j
    · subst hj
      simp
    · have hne : j ≠ k := Ne.symm hj
      simp [hj, hne]
  | none =>
    have hrow : (ackEntry s e).rowOf k = s.rowOf k := by
      cases hi : findMeter s.dir e.meter with
      | some i => rw [ackEntry_meter hs hi]; rfl
      | none => rw [ackEntry_unknown hs hi]
    rw [hrow]
    simp

theorem ackEntry_ackFifo (s : State) (e : TamperEntry) :
    (ackEntry s e).ins.ackFifo = s.ins.ackFifo ++ (e.slot.toList.map (ackWrite s)) := by
  cases hs : e.slot with
  | some k =>
    rw [ackEntry_slot hs]
    rfl
  | none =>
    cases hi : findMeter s.dir e.meter with
    | some i => rw [ackEntry_meter hs hi]; simp [modMeter]
    | none => rw [ackEntry_unknown hs hi]; simp

theorem ackWrite_ackEntry (s : State) (e : TamperEntry) (k : Nat) : ackWrite (ackEntry s e) k = ackWrite s k := by
  have hrow := rowOf_ackEntry s e k
  obtain ⟨l, d, f, hshape⟩ := ackEntry_shape s e
  have hsel : (ackEntry s e).path.areaSel = s.path.areaSel := by rw [hshape]
  have hjoined : headerJoined (ackEntry s e) (ackEntry s e).ins k = headerJoined s s.ins k := by rw [hshape]; rfl
  have hpending : headerPending (ackEntry s e) k = headerPending s k := by
    unfold headerPending
    rw [hrow, hjoined]
    cases s.rowOf k <;> rfl
  rw [ackWrite, ackWrite, hpending, hsel, hrow, Option.map_map]
  rfl

/-- Whether entry `e`, without a slot, stands for the meter at index `i`. -/
def namesMeter (dir : List Meter) (i : Nat) (e : TamperEntry) : Bool := e.slot.isNone && decide (findMeter dir e.meter = some i)

theorem dir_ackEntry (s : State) (e : TamperEntry) (i : Nat) :
    (ackEntry s e).dir[i]? = s.dir[i]?.map fun m => { m with ackPending := m.ackPending || namesMeter s.dir i e } := by
  cases hs : e.slot with
  | some k =>
    have hdir : (ackEntry s e).dir = s.dir := by
      rw [ackEntry_slot hs]
      exact modRow_dir _ _ _
    rw [hdir]
    simp [namesMeter, hs]
  | none =>
    cases hi : findMeter s.dir e.meter with
    | none =>
      rw [ackEntry_unknown hs hi]
      simp [namesMeter, hs, hi]
    | some j =>
      rw [ackEntry_meter hs hi]
      show (s.dir.modify j _)[i]? = _
      by_cases hij : i = j
      · subst hij
        simp [namesMeter, hs, hi]
      · rw [getElem?_modify_of_ne _ _ hij]
        simp [namesMeter, hs, hi, Ne.symm hij]

theorem findMeter_ackEntry (s : State) (e : TamperEntry) (id : Word) : findMeter (ackEntry s e).dir id = findMeter s.dir id := by
  cases hs : e.slot with
  | some k =>
    rw [ackEntry_slot hs]
    exact congrArg (findMeter · id) (modRow_dir _ _ _)
  | none =>
    cases hi : findMeter s.dir e.meter with
    | none => rw [ackEntry_unknown hs hi]
    | some j =>
      rw [ackEntry_meter hs hi]
      exact findMeter_modify (f := fun x => { x with ackPending := true }) (fun _ => rfl) s.dir j id

/-! ### All entries acknowledged -/

theorem ackEntries_shape (gone : List TamperEntry) (s : State) :
    ∃ l d f, gone.foldl ackEntry s = { s with sm := { s.sm with slots := l }, dir := d, ins := { s.ins with ackFifo := f } } := by
  induction gone generalizing s with
  | nil => exact ⟨s.sm.slots, s.dir, s.ins.ackFifo, rfl⟩
  | cons e gone ih =>
    obtain ⟨l, d, f, h⟩ := ih (ackEntry s e)
    obtain ⟨l', d', f', h'⟩ := ackEntry_shape s e
    refine ⟨l, d, f, ?_⟩
    rw [List.foldl_cons, h, h']

theorem rowOf_ackEntries (gone : List TamperEntry) (s : State) (k : Nat) :
    (gone.foldl ackEntry s).rowOf k =
      (s.rowOf k).map fun r => { r with acked := r.acked || gone.any fun e => decide (e.slot = some k) } := by
  induction gone generalizing s with
  | nil => simp
  | cons e gone ih =>
    rw [List.foldl_cons, ih, rowOf_ackEntry, Option.map_map]
    simp [Function.comp_def, Bool.or_assoc]

theorem dir_ackEntries (gone : List TamperEntry) (s : State) (i : Nat) :
    (gone.foldl ackEntry s).dir[i]? =
      s.dir[i]?.map fun m => { m with ackPending := m.ackPending || gone.any (namesMeter s.dir i) } := by
  induction gone generalizing s with
  | nil => simp
  | cons e gone ih =>
    have hnames : namesMeter (ackEntry s e).dir i = namesMeter s.dir i :=
      funext fun x => by rw [namesMeter, namesMeter, findMeter_ackEntry]
    rw [List.foldl_cons, ih, dir_ackEntry, hnames, Option.map_map]
    simp [Function.comp_def, Bool.or_assoc]

theorem ackEntries_ackFifo (gone : List TamperEntry) (s : State) :
    (gone.foldl ackEntry s).ins.ackFifo = s.ins.ackFifo ++ (gone.filterMap fun e => e.slot).map (ackWrite s) := by
  induction gone generalizing s with
  | nil => simp
  | cons e gone ih =>
    have hwrite : ackWrite (ackEntry s e) = ackWrite s := funext (ackWrite_ackEntry s e)
    rw [List.foldl_cons, ih, ackEntry_ackFifo, hwrite, List.append_assoc]
    cases hs : e.slot <;> simp [hs]

/-! ### The command -/

theorem exec_tamperAck_accepted {h : CmdHeader} {s : State} (ha : Accepted .tamperAck h s) :
    exec (.tamperAck h) s = .next (finish s (tamperAckWork (hostParam s 1) (begun .tamperAck h s))) := by
  have hrun := exec_hostInstr_accepted ha
  simp only [runCommand, param_commit, Nat.reduceLT] at hrun
  exact hrun

theorem tamperAckWork_badParam {k : Word} {s : State} (h : k = 0 ∨ s.tamper.list.length < k.toNat) :
    tamperAckWork k s = respond 0x13#8 [] s :=
  if_pos (h.imp_left fun h0 => by rw [h0]; rfl)

theorem ackLastWord_some {e : TamperEntry} {k : Nat} (h : e.slot = some k) :
    ackLastWord e = BitVec.ofNat 32 k ||| (e.causes.setWidth 32 <<< 16) := by
  rw [ackLastWord, h]
  dsimp only
  rw [num_zero]
  rfl

theorem ackLastWord_none {e : TamperEntry} (h : e.slot = none) :
    ackLastWord e = 0xFFFF#32 ||| (e.causes.setWidth 32 <<< 16) := by
  rw [ackLastWord, h]
  rfl

/-- The state whose list has lost its oldest entries `gone`. -/
def acked (n : Nat) (gone : List TamperEntry) (s : State) : State :=
  gone.foldl ackEntry { s with tamper := { s.tamper with list := s.tamper.list.drop n } }

theorem acked_shape (n : Nat) (gone : List TamperEntry) (s : State) :
    ∃ l d, acked n gone s =
      { s with
        tamper := { s.tamper with list := s.tamper.list.drop n }
        sm := { s.sm with slots := l }
        dir := d
        ins := { s.ins with ackFifo := s.ins.ackFifo ++ (gone.filterMap fun e => e.slot).map (ackWrite s) } } := by
  obtain ⟨l, d, f, h⟩ := ackEntries_shape gone { s with tamper := { s.tamper with list := s.tamper.list.drop n } }
  have hfifo := ackEntries_ackFifo gone { s with tamper := { s.tamper with list := s.tamper.list.drop n } }
  rw [h] at hfifo
  have hf : f = s.ins.ackFifo ++ (gone.filterMap fun e => e.slot).map (ackWrite s) := hfifo
  exact ⟨l, d, by rw [acked, h, hf]⟩

theorem rowOf_acked (n : Nat) (gone : List TamperEntry) (s : State) (k : Nat) :
    (acked n gone s).rowOf k =
      (s.rowOf k).map fun r => { r with acked := r.acked || gone.any fun e => decide (e.slot = some k) } :=
  rowOf_ackEntries gone _ k

theorem dir_acked (n : Nat) (gone : List TamperEntry) (s : State) (i : Nat) :
    (acked n gone s).dir[i]? =
      s.dir[i]?.map fun m => { m with ackPending := m.ackPending || gone.any (namesMeter s.dir i) } :=
  dir_ackEntries gone _ i

theorem ackWrite_eq (s : State) (k : Nat) :
    ackWrite s k =
      if headerPending s k then QWrite.header k
      else
        .word (recordAddr s.path.areaSel k 0)
          (match s.rowOf k with
            | some r => headerWord r.kind r.locked true
            | none => 0)
          false := by
  rw [ackWrite]
  cases s.rowOf k <;> rfl

theorem tamperAckWork_acks {k : Word} {s : State} {gone : List TamperEntry} {last : TamperEntry} (h0 : k ≠ 0)
    (hlen : k.toNat ≤ s.tamper.list.length) (hgone : gone = s.tamper.list.take k.toNat) (hlast : gone.getLast? = some last) :
    tamperAckWork k s =
      { acked k.toNat gone s with
        cmd :=
          { (acked k.toNat gone s).cmd with
            running := (acked k.toNat gone s).cmd.running.map fun x =>
              { x with
                response :=
                  some
                    ⟨0x00#8,
                      [k, BitVec.ofNat 32 (s.tamper.list.length - k.toNat),
                        BitVec.ofNat 32 (gone.countP fun e => e.slot.isSome),
                        BitVec.ofNat 32 (gone.countP fun e => e.slot.isNone), last.route.setWidth 32, last.meter,
                        ackLastWord last], false⟩ } }
        ins := { (acked k.toNat gone s).ins with ackFifo := (acked k.toNat gone s).ins.ackFifo ++ [.respond] } } := by
  have hpos : ¬(k.toNat = 0 ∨ s.tamper.list.length < k.toNat) := by
    rintro (hz | hlt)
    · exact h0 (BitVec.eq_of_toNat_eq hz)
    · omega
  have hlength : (acked k.toNat gone s).tamper.list.length = s.tamper.list.length - k.toNat := by
    obtain ⟨l, d, h⟩ := acked_shape k.toNat gone s
    rw [h]
    exact List.length_drop
  subst hgone
  rw [acked] at hlength
  unfold tamperAckWork
  dsimp only
  rw [if_neg hpos, hlast, hlength, num_zero, num_zero, num_zero]
  dsimp only
  rw [place_zero]
  rfl

/-! ### When the writes join (R115, R125) -/

theorem drainAcks_held {t : State} {i : Inserts} {k : Nat} {qs : List QWrite} (h : headerJoined t i k = false) :
    drainAcks t i (.header k :: qs) = { i with ackFifo := .header k :: qs } := by
  rw [drainAcks]
  exact if_neg (by simp [h])

theorem drainAcks_header {t : State} {i : Inserts} {k : Nat} {qs : List QWrite} (h : headerJoined t i k = true) :
    drainAcks t i (.header k :: qs) = drainAcks t (giveOne t i .tamperUnit (.header k)) qs := by
  rw [drainAcks]
  exact if_pos h

theorem drainAcks_other {t : State} {i : Inserts} {q : QWrite} {qs : List QWrite} (h : ∀ k, q ≠ .header k) :
    drainAcks t i (q :: qs) = drainAcks t (giveOne t i .tamperUnit q) qs := by
  cases q with
  | header k => exact absurd rfl (h k)
  | word a d n => rfl
  | status n => rfl
  | respond => rfl
  | response0 => rfl

theorem giveOne_header {t : State} {i : Inserts} {k : Nat} {r : RecRow} (h : t.rowOf k = some r) :
    giveOne t i .tamperUnit (.header k) =
      giveWordOf i ⟨recordAddr t.path.areaSel k 0, recordHeader r.kind r.locked r.acked, .tamperUnit, false⟩ := by
  rw [← headerNow_eq h]
  rfl

theorem not_isWaiting {i : Inserts} {p : Producer} (h : ∀ x ∈ i.waits, x.1 ≠ p) : i.isWaiting p = false :=
  Bool.eq_false_of_not_eq_true fun hw => by
    obtain ⟨x, hx, hp⟩ := (isWaiting_iff i p).mp hw
    exact h x hx hp

theorem giveOne_respond {t : State} {i : Inserts} {p : Producer} (h : i.isWaiting p = false) :
    giveOne t i p .respond = giveResponse t i := if_neg (by simp [h])

theorem giveOne_respond_waits {t : State} {i : Inserts} {p : Producer} (h : i.isWaiting p = true) :
    giveOne t i p .respond = i.wait p .respond := if_pos h

/-- Where no free choice is left the writes given later come last. -/
theorem interleave_nil {α : Type} (qs l : List α) : interleave [] qs l = l ++ qs := by
  induction qs generalizing l with
  | nil => rw [interleave, List.append_nil]
  | cons q qs ih =>
    rw [interleave]
    exact (ih (l ++ [q])).trans (by rw [List.append_assoc]; rfl)

theorem finish_ins_in_order {s t : State} (h : t.ins.ties = []) :
    (finish s t).ins =
      (changedStatus s t).foldl (fun i n => i.giveStatus t.path.areaSel n (statusWord t n))
        (settle t (t.ins.outbox.foldl (fun i q => giveOne t i q.1 q.2) { t.ins with outbox := [] })) := by
  have hempty : emptied s t = { t.ins with outbox := [] } := by
    rw [emptied, h, List.drop_nil, ← h]
  rw [finish_ins_eq, eventWrites, h, interleave_nil, hempty, List.foldl_append, List.foldl_append, List.foldl_map,
    List.foldl_map]
  rfl

/-- Settles O34: what TAMPER_ACK removes is acknowledged entry by entry, and its writes wait in `ackFifo` for `drainAcks`. -/
theorem tamperAckRemovesTheOldest : Obligations.TamperAckRemovesTheOldest := by
  refine ⟨fun h s ha => ?_, fun t i => ⟨rfl, fun k qs => drainAcks_held, fun k qs => drainAcks_header,
      fun q qs => drainAcks_other, fun k r hrow => ⟨fun hw hlen => ?_, fun hfull hno => ?_⟩, fun hno => ?_,
      fun pre qs post hw hno => ?_⟩,
    fun s t given released hties hgiven hreleased => ?_⟩
  · rw [exec_tamperAck_accepted ha]
    refine ⟨fun hbad => ?_, fun taken last h0 hlen htaken hlast => ?_⟩
    · rw [tamperAckWork_badParam (s := begun .tamperAck h s) hbad]
    · rw [tamperAckWork_acks (s := begun .tamperAck h s) h0 hlen htaken hlast]
      obtain ⟨l, d, hshape⟩ := acked_shape (hostParam s 1).toNat taken (begun .tamperAck h s)
      have hrow := rowOf_acked (hostParam s 1).toNat taken (begun .tamperAck h s)
      have hdir := dir_acked (hostParam s 1).toNat taken (begun .tamperAck h s)
      rw [hshape] at hrow hdir ⊢
      refine ⟨_, rfl, rfl, rfl, rfl, rfl, rfl, rfl, rfl, rfl, fun e k r he hk hr => ?_, fun i m hm => ?_, ?_, ?_⟩
      · have hany : (taken.any fun e => decide (e.slot = some k)) = true :=
          List.any_eq_true.mpr ⟨e, he, decide_eq_true hk⟩
        have hbegun : (begun .tamperAck h s).rowOf k = some r := hr
        refine (hrow k).trans ?_
        rw [hbegun, hany]
        simp
      · have hbegun : (begun .tamperAck h s).dir[i]? = some m := hm
        refine (hdir i).trans ?_
        rw [hbegun]
        rfl
      · have hwrites := funext (ackWrite_eq (begun .tamperAck h s))
        show ({ s.ins with ackFifo := s.ins.ackFifo ++ _ ++ [.respond] } : Inserts) = _
        rw [hwrites]
        rfl
      · cases hslot : last.slot with
        | some k => rw [ackLastWord_some hslot]; rfl
        | none => rw [ackLastWord_none hslot]; rfl
  · rw [giveOne_header hrow, giveWordOf_room hw hlen]
    rfl
  · rw [giveOne_header hrow, giveWordOf_waits hfull, wait_new hno]
    rfl
  · exact giveOne_respond (not_isWaiting hno)
  · rw [giveOne_respond_waits ((isWaiting_iff _ _).mpr ⟨(.tamperUnit, qs), by simp [hw], rfl⟩), wait_behind hw hno]
  · rw [finish_ins_in_order hties, ← hgiven, settle, ← hreleased]

end Sys2Proof.Machine
end


section
/-! The judgement of a burst that is not accepted: its verdict in every route state, and its fields (R66 to R71). -/
namespace Sys2Proof.Machine

/-! ### When the head of the Judge Queue is taken (R66) -/

theorem canJudge_opened {b : Burst} {q : List Burst} {s : State} (hq : s.cap.judgeQ = b :: q)
    (hw : s.ins.isWaiting .captureUnit = false) (hd : s.cap.deferred = []) : canJudge s = true := by
  simp [canJudge, judgeIdle, hq, hw, hd]

theorem canJudge_loading {b : Burst} {q : List Burst} {s : State} (hq : s.cap.judgeQ = b :: q)
    (hw : s.ins.isWaiting .captureUnit = false) (hl : s.route.state = .loading) : canJudge s = true := by
  simp [canJudge, judgeIdle, hq, hw, hl]

theorem judgeHead_cons {b : Burst} {q : List Burst} {s : State} (hq : s.cap.judgeQ = b :: q) :
    judgeHead s = judge b { s with cap := { s.cap with judgeQ := q } } := by rw [judgeHead, hq]

theorem exec_judgeBurst {b : Burst} {q : List Burst} {s : State} (ha : Awake s) (hq : s.cap.judgeQ = b :: q)
    (hc : canJudge s = true) :
    exec .judgeBurst s = .next (finish s (judge b { s with cap := { s.cap with judgeQ := q } })) := by
  rw [← judgeHead_cons hq]
  exact event_taken ha hc

/-! ### The route states (R67) -/

theorem judge_noRoute {b : Burst} {s : State} (h : s.route.state = .noRoute) :
    judge b s = finalVerdict b 0x24#8 (flag b.overrun 8) 0xFFFF#16 s := by
  rw [judge, h]
  exact refuseBurst_eq b _ s

theorem judge_closing {b : Burst} {s : State} (h : s.route.state = .closing) :
    judge b s = finalVerdict b 0x25#8 (flag b.overrun 8) 0xFFFF#16 s := by
  rw [judge, h]
  exact refuseBurst_eq b _ s

theorem judge_opened {b : Burst} {s : State} (h : s.route.state = .opened) : judge b s = judgeOpen b s := by
  rw [judge, h]

theorem judge_loading {b : Burst} {s : State} (h : s.route.state = .loading) : judge b s = deferBurst b s := by
  rw [judge, h]

theorem deferredVerdict_eq (o : Bool) :
    verdictWord vDeferred (burstFlags o) Config.noIndex = 0xFFFF0002#32 ||| flag o 8 := by cases o <;> decide

theorem deferBurst_room {b : Burst} {s : State} (h : s.cap.deferred.length < 64) :
    deferBurst b s =
      { s with
        cap := { s.cap with deferred := s.cap.deferred ++ [{ b with mark := b.mark || s.cutMarks.headD true }] }
        cutMarks := if b.mark then s.cutMarks else s.cutMarks.tail
        ins :=
          { s.ins with
            outbox :=
              s.ins.outbox ++
                [(.captureUnit, .word (captureAddr s.path.areaSel b.slot 15) (0xFFFF0002#32 ||| flag b.overrun 8)
                  false)] } } := by
  have hroom : s.cap.deferred.length < Config.deferredPlaces := h
  rw [deferBurst, if_pos hroom, deferredVerdict_eq]
  rfl

theorem deferBurst_full {b : Burst} {s : State} (h : 64 ≤ s.cap.deferred.length) :
    deferBurst b s =
      finalVerdict b 0x26#8 (flag b.overrun 8) 0xFFFF#16
        { s with cap := { s.cap with unjudged := satInc s.cap.unjudged } } := by
  have hfull : ¬s.cap.deferred.length < Config.deferredPlaces := Nat.not_lt.mpr h
  rw [deferBurst, if_neg hfull]
  exact refuseBurst_eq b _ _

/-! ### The acceptance checks (R68 to R71) -/

/-- R82: one more burst judged in OPEN. -/
def judgedState (s : State) : State := { s with cap := { s.cap with routeJudged := satInc s.cap.routeJudged } }

theorem judgeOpen_badCrc {b : Burst} {s : State} (h : b.crcGood = false) :
    judgeOpen b s = finalVerdict b 0x20#8 (flag b.overrun 8) 0xFFFF#16 (judgedState s) := by
  rw [judgeOpen, h]
  exact refuseBurst_eq b _ _

theorem judgeOpen_badFrame {b : Burst} {s : State} (hc : b.crcGood = true) (h : b.frameGood = false) :
    judgeOpen b s = finalVerdict b 0x21#8 (flag b.overrun 8) 0xFFFF#16 (judgedState s) := by
  rw [judgeOpen, hc, h]
  exact refuseBurst_eq b _ _

theorem judgeOpen_weak {b : Burst} {s : State} (hc : b.crcGood = true) (hf : b.frameGood = true)
    (h : b.rssi.toInt < s.route.active.floor.toInt) :
    judgeOpen b s = finalVerdict b 0x22#8 (flag b.overrun 8) 0xFFFF#16 (judgedState s) := by
  have hweak : signalGood b.rssi s.route.active.floor = false := decide_eq_false (Int.not_le.mpr h)
  rw [judgeOpen, hc, hf, hweak]
  exact refuseBurst_eq b _ _

theorem judgeOpen_checked {b : Burst} {s : State} (hc : b.crcGood = true) (hf : b.frameGood = true)
    (h : s.route.active.floor.toInt ≤ b.rssi.toInt) : judgeOpen b s = judgeMeter b (judgedState s) := by
  have hgood : signalGood b.rssi s.route.active.floor = true := decide_eq_true h
  rw [judgeOpen, hc, hf, hgood]
  rfl

theorem judgeMeter_unknown {b : Burst} {s : State} (h : findMeter s.dir b.meter = none) :
    judgeMeter b s =
      finalVerdict b 0x23#8 (flag b.overrun 8) 0xFFFF#16
        { s with
          cap :=
            { s.cap with
              unknownMeters := satInc s.cap.unknownMeters, routeUnknown := satInc s.cap.routeUnknown } } := by
  rw [judgeMeter, h]
  exact refuseBurst_eq b _ _

theorem judgeMeter_known {b : Burst} {i : Nat} {m : Meter} {s : State} (h : findMeter s.dir b.meter = some i)
    (hm : s.dir[i]? = some m) : judgeMeter b s = acceptBurst b i m s := by
  rw [judgeMeter, h]
  dsimp only
  rw [hm]

/-! ### The fields of a burst (chapter 12.3) -/

theorem crcGood_iff (b : Burst) :
    b.crcGood = true ↔
      (((List.range 7).map b.word).flatMap fun x =>
          [x.extractLsb' 0 8, x.extractLsb' 8 8, x.extractLsb' 16 8, x.extractLsb' 24 8]).foldl
        (fun (c : Half) (y : Byte) =>
          (fun z : Half => if z.msb then (z <<< 1) ^^^ 0x1021#16 else z <<< 1)^[8] (c ^^^ (y ++ 0#8))) 0xFFFF#16 =
        (b.word 7).extractLsb' 0 16 := beq_iff_eq

theorem frameGood_iff (b : Burst) :
    b.frameGood = true ↔
      (b.kind = 1#8 ∨ b.kind = 2#8) ∧
        (b.hops = 0#8 ∨ (b.hops = 1#8 ∧ b.word 5 ≠ 0 ∧ b.word 5 ≠ b.meter) ∨
          (b.hops = 2#8 ∧ b.word 5 ≠ 0 ∧ b.word 6 ≠ 0 ∧ b.word 5 ≠ b.meter ∧ b.word 6 ≠ b.meter ∧
            b.word 5 ≠ b.word 6)) := by
  simp only [Burst.frameGood, Bool.and_eq_true, Bool.or_eq_true, beq_iff_eq, bne_iff_ne, and_assoc, or_assoc]

theorem burst_path_eq (b : Burst) :
    b.path = ⟨b.hops, if b.hops = 0#8 then 0 else b.word 5, if b.hops.toNat < 2 then 0 else b.word 6⟩ := by
  have h1 : 1 ≤ b.hops.toNat ↔ ¬b.hops = 0#8 := by bv_omega
  have h2 : 2 ≤ b.hops.toNat ↔ ¬b.hops.toNat < 2 := Nat.not_lt.symm
  simp only [Burst.path, relayPath, h1, h2, ite_not]

/-! ### The look-up by meter ID (R50) -/

theorem findMeter_some_iff (dir : List Meter) (id : Word) (i : Nat) :
    findMeter dir id = some i ↔
      (∃ m, dir[i]? = some m ∧ m.img.id = id) ∧ ∀ j x, j < i → dir[j]? = some x → x.img.id ≠ id := by
  rw [findMeter, List.findIdx?_eq_some_iff_getElem]
  constructor
  · rintro ⟨hlen, hid, hbefore⟩
    refine ⟨⟨dir[i], List.getElem?_eq_getElem hlen, of_decide_eq_true hid⟩, fun j x hj hx heq => ?_⟩
    obtain ⟨hjlen, hjx⟩ := List.getElem?_eq_some_iff.mp hx
    exact hbefore j hj (decide_eq_true (hjx ▸ heq))
  · rintro ⟨⟨m, hm, hid⟩, hbefore⟩
    obtain ⟨hlen, hlm⟩ := List.getElem?_eq_some_iff.mp hm
    refine ⟨hlen, decide_eq_true (hlm ▸ hid), fun j hj heq => ?_⟩
    have hjlen : j < dir.length := Nat.lt_trans hj hlen
    exact hbefore j dir[j] hj (List.getElem?_eq_getElem hjlen) (of_decide_eq_true heq)

theorem findMeter_none_iff (dir : List Meter) (id : Word) : findMeter dir id = none ↔ ∀ m ∈ dir, m.img.id ≠ id := by
  rw [findMeter, List.findIdx?_eq_none_iff]
  exact forall₂_congr fun m _ => decide_eq_false_iff_not

/-- Settles O44: the branches of `judge` and `judgeOpen`, the checks as arithmetic, and the first match of the look-up. -/
theorem unacceptedBurstsGetTheirVerdict : Obligations.UnacceptedBurstsGetTheirVerdict := by
  refine ⟨fun b q s base ha hq hw hbase => ⟨fun hd hr => ?_, fun hd hr => ?_, fun judged hd hr hj => ?_,
      fun joins hr hlen hj => ?_, fun hr hlen => ?_⟩,
    fun b code flags index s => ⟨finalVerdict_unmarked, finalVerdict_marked⟩,
    fun b w hw => ?_, fun dir id => ⟨findMeter_some_iff dir id, findMeter_none_iff dir id⟩⟩
  · rw [exec_judgeBurst ha hq (canJudge_opened hq hw hd), ← hbase]
    rw [judge_noRoute (s := base) (by rw [hbase]; exact hr)]
  · rw [exec_judgeBurst ha hq (canJudge_opened hq hw hd), ← hbase]
    rw [judge_closing (s := base) (by rw [hbase]; exact hr)]
  · have hopen : base.route.state = .opened := by rw [hbase]; exact hr
    have hfloor : base.route.active.floor = s.route.active.floor := by rw [hbase]
    have hdir : (judgedState base).dir = s.dir := by rw [hbase]; rfl
    have hjudged : judgedState base = judged := by rw [hj, hbase]; rfl
    rw [exec_judgeBurst ha hq (canJudge_opened hq hw hd), ← hbase, judge_opened hopen]
    refine ⟨fun hc => ?_, fun hc hf => ?_, fun hc hf hs => ?_, fun hc hf hs hm => ?_⟩
    · rw [judgeOpen_badCrc hc, hjudged]
    · rw [judgeOpen_badFrame hc hf, hjudged]
    · rw [judgeOpen_weak hc hf (hfloor ▸ hs), hjudged]
    · rw [judgeOpen_checked hc hf (hfloor ▸ hs), judgeMeter_unknown (hdir ▸ hm), hjudged, hj, hbase]
  · rw [exec_judgeBurst ha hq (canJudge_loading hq hw hr), ← hbase]
    have hload : base.route.state = .loading := by rw [hbase]; exact hr
    rw [judge_loading hload, deferBurst_room (by rw [hbase]; exact hlen), hj, hbase]
  · rw [exec_judgeBurst ha hq (canJudge_loading hq hw hr), ← hbase]
    have hload : base.route.state = .loading := by rw [hbase]; exact hr
    rw [judge_loading hload, deferBurst_full (by rw [hbase]; exact hlen), hbase]
  · subst hw
    exact ⟨crcGood_iff b, frameGood_iff b, rfl, rfl, rfl, rfl, rfl, rfl, rfl, rfl, rfl, burst_path_eq b⟩

end Sys2Proof.Machine
end


section
/-! A held burst is judged as the one burst of the Judge Queue is: outside LOADING no judgement looks at the Judge Queue
or the Deferred List (R48, R67). -/
namespace Sys2Proof.Machine

/-- The state with `jq` as its Judge Queue and `dq` as its Deferred List. -/
def withLists (jq dq : List Burst) (s : State) : State := { s with cap := { s.cap with judgeQ := jq, deferred := dq } }

variable (jq dq : List Burst)

/-! ### Segments, causes and re-locks -/

theorem moveSegment_withLists (g : Nat) (old new : MeterState) (s : State) :
    moveSegment g old new (withLists jq dq s) = withLists jq dq (moveSegment g old new s) := by
  rw [moveSegment_eq, moveSegment_eq]
  rfl

theorem setMeterState_withLists (i : Nat) (new : MeterState) (s : State) :
    setMeterState i new (withLists jq dq s) = withLists jq dq (setMeterState i new s) := by
  have hdir : (withLists jq dq s).dir = s.dir := rfl
  rw [setMeterState, setMeterState, hdir]
  cases s.dir[i]? with
  | none => rfl
  | some m => exact congrArg (modMeter i _) (moveSegment_withLists jq dq m.img.segment m.state new s)

theorem modRow_withLists (k : Nat) (f : RecRow → RecRow) (s : State) :
    modRow k f (withLists jq dq s) = withLists jq dq (modRow k f s) := by
  have hrow : (withLists jq dq s).rowOf k = s.rowOf k := rfl
  rw [modRow, modRow, hrow]
  cases s.rowOf k <;> rfl

theorem reLock_withLists (m : Meter) (s : State) : reLock m (withLists jq dq s) = withLists jq dq (reLock m s) := by
  have hrow (k : Nat) : (withLists jq dq s).rowOf k = s.rowOf k := rfl
  have hpending (k : Nat) : headerPending (withLists jq dq s) k = headerPending s k := rfl
  rw [reLock, reLock]
  cases m.first with
  | none => rfl
  | some f =>
    dsimp only
    rw [hrow, modRow_withLists, hpending]
    cases s.rowOf f.slot with
    | none => rfl
    | some r =>
      dsimp only
      split_ifs <;> rfl

/-- R113: the NOTE of the entry at index `i` requested and its entry made. -/
def noteState (i : Nat) (m : Meter) (s : State) : State :=
  createTamper ⟨s.route.number, m.img.id, m.causes, none⟩
    { modMeter i (fun x => { x with pendingNote := true }) s with
      sm := { s.sm with backlog := s.sm.backlog ++ [.note i] } }

theorem lateCauses_withLists (i : Nat) (m : Meter) (new : Byte) (s : State) :
    lateCauses i m new (withLists jq dq s) = withLists jq dq (lateCauses i m new s) := by
  rw [lateCauses, lateCauses]
  split
  · rfl
  · exact reLock_withLists jq dq m (noteState i m s)

theorem addCauses_withLists (i : Nat) (set : Byte) (s : State) :
    addCauses i set (withLists jq dq s) = withLists jq dq (addCauses i set s) := by
  have hdir : (withLists jq dq s).dir = s.dir := rfl
  rw [addCauses, addCauses, hdir]
  cases s.dir[i]? with
  | none => rfl
  | some m =>
    dsimp only
    split
    · rfl
    · split
      · exact lateCauses_withLists jq dq i _ _ (modMeter i (fun x => { x with causes := x.causes ||| set &&& ~~~m.causes }) s)
      · split <;> rfl

/-! ### Verdicts and confirmations -/

theorem finalVerdict_withLists (b : Burst) (code : Byte) (flags : Word) (index : Half) (s : State) :
    finalVerdict b code flags index (withLists jq dq s) = withLists jq dq (finalVerdict b code flags index s) := by
  rw [finalVerdict, finalVerdict]
  split <;> rfl

theorem refuseBurst_withLists (b : Burst) (code : Byte) (s : State) :
    refuseBurst b code (withLists jq dq s) = withLists jq dq (refuseBurst b code s) :=
  finalVerdict_withLists jq dq b code _ _ s

theorem modMeter_withLists (i : Nat) (f : Meter → Meter) (s : State) :
    modMeter i f (withLists jq dq s) = withLists jq dq (modMeter i f s) := rfl

theorem endPoll_withLists (i : Nat) (matched : Bool) (s : State) :
    endPoll i matched (withLists jq dq s) = withLists jq dq (endPoll i matched s) := rfl

theorem requestReading_withLists (i : Nat) (s : State) :
    requestReading i (withLists jq dq s) = withLists jq dq (requestReading i s) := rfl

theorem fixReading_withLists (i : Nat) (c : Confirmed) (matched : Bool) (s : State) :
    fixReading i c matched (withLists jq dq s) = withLists jq dq (fixReading i c matched s) := by
  rw [fixReading, fixReading, modMeter_withLists, setMeterState_withLists]

theorem confirm_withLists (i : Nat) (c : Confirmed) (matched : Bool) (causes : Byte) (s : State) :
    confirm i c matched causes (withLists jq dq s) = withLists jq dq (confirm i c matched causes s) := by
  rw [confirm, confirm, fixReading_withLists, endPoll_withLists, addCauses_withLists, requestReading_withLists]

/-! ### Accepted bursts -/

theorem castVote_withLists (b : Burst) (i : Nat) (m : Meter) (flags : Word) (s : State) :
    castVote b i m flags (withLists jq dq s) = withLists jq dq (castVote b i m flags s) := by
  have hroute : (withLists jq dq s).route = s.route := rfl
  rw [castVote, castVote, hroute, modMeter_withLists]
  simp only [confirm_withLists, finalVerdict_withLists, setMeterState_withLists, apply_ite (withLists jq dq)]

theorem judgeRepeat_withLists (b : Burst) (i : Nat) (c : Confirmed) (flags : Word) (s : State) :
    judgeRepeat b i c flags (withLists jq dq s) = withLists jq dq (judgeRepeat b i c flags s) := by
  have hroute : (withLists jq dq s).route = s.route := rfl
  rw [judgeRepeat, judgeRepeat, hroute, modMeter_withLists, modMeter_withLists]
  simp only [addCauses_withLists, finalVerdict_withLists, apply_ite (withLists jq dq)]

theorem matchResponse_withLists (b : Burst) (i : Nat) (m : Meter) (flags : Word) (s : State) :
    matchResponse b i m flags (withLists jq dq s) = withLists jq dq (matchResponse b i m flags s) := by
  have hroute : (withLists jq dq s).route = s.route := rfl
  rw [matchResponse, matchResponse, hroute, modMeter_withLists]
  simp only [confirm_withLists, finalVerdict_withLists]

theorem judgeOrdinary_withLists (b : Burst) (i : Nat) (m : Meter) (flags : Word) (s : State) :
    judgeOrdinary b i m flags (withLists jq dq s) = withLists jq dq (judgeOrdinary b i m flags s) := by
  rw [judgeOrdinary, judgeOrdinary]
  split
  · exact finalVerdict_withLists jq dq b _ _ _ s
  · split
    · cases m.confirmed with
      | some c => exact judgeRepeat_withLists jq dq b i c flags s
      | none => rfl
    · exact castVote_withLists jq dq b i m flags s

theorem acceptBurst_withLists (b : Burst) (i : Nat) (m : Meter) (s : State) :
    acceptBurst b i m (withLists jq dq s) = withLists jq dq (acceptBurst b i m s) := by
  have hlistening : isListening (withLists jq dq s) i = isListening s i := rfl
  have hlate : isLate (withLists jq dq s) i m = isLate s i m := rfl
  rw [acceptBurst, acceptBurst, hlistening, hlate, modMeter_withLists, addCauses_withLists]
  simp only [matchResponse_withLists, judgeOrdinary_withLists, apply_ite (withLists jq dq)]

/-! ### Judgements -/

theorem judgeMeter_withLists (b : Burst) (s : State) :
    judgeMeter b (withLists jq dq s) = withLists jq dq (judgeMeter b s) := by
  have hdir : (withLists jq dq s).dir = s.dir := rfl
  rw [judgeMeter, judgeMeter, hdir]
  cases findMeter s.dir b.meter with
  | none =>
    exact refuseBurst_withLists jq dq b vUnknownMeter
      { s with
        cap :=
          { s.cap with
            unknownMeters := satInc s.cap.unknownMeters, routeUnknown := satInc s.cap.routeUnknown } }
  | some i =>
    dsimp only
    cases s.dir[i]? with
    | none => rfl
    | some m => exact acceptBurst_withLists jq dq b i m s

theorem judgeOpen_withLists (b : Burst) (s : State) :
    judgeOpen b (withLists jq dq s) = withLists jq dq (judgeOpen b s) := by
  have hroute : (withLists jq dq s).route = s.route := rfl
  rw [judgeOpen, judgeOpen, hroute]
  split
  · exact refuseBurst_withLists jq dq b vBadCrc (judgedState s)
  · split
    · exact refuseBurst_withLists jq dq b vBadFrame (judgedState s)
    · split
      · exact refuseBurst_withLists jq dq b vWeak (judgedState s)
      · exact judgeMeter_withLists jq dq b (judgedState s)

theorem judge_withLists {s : State} (b : Burst) (h : s.route.state ≠ .loading) :
    judge b (withLists jq dq s) = withLists jq dq (judge b s) := by
  have hroute : (withLists jq dq s).route = s.route := rfl
  rw [judge, judge, hroute]
  cases hst : s.route.state with
  | noRoute => exact refuseBurst_withLists jq dq b _ _
  | closing => exact refuseBurst_withLists jq dq b _ _
  | opened => exact judgeOpen_withLists jq dq b s
  | loading => exact absurd hst h

end Sys2Proof.Machine
end

section
/-! The held burst at the head of the Deferred List (R48). -/
namespace Sys2Proof.Machine

theorem exec_deferredJudge {b : Burst} {q : List Burst} {s : State} (ha : Awake s) (hq : s.cap.deferred = b :: q)
    (hw : s.ins.isWaiting .captureUnit = false) (hl : s.route.state ≠ .loading) :
    exec .deferredJudge s = .next (finish s (judge b { s with cap := { s.cap with deferred := q } })) := by
  have hcan : canJudgeDeferred s = true := by simp [canJudgeDeferred, judgeIdle, hq, hw, hl]
  have htake : judgeDeferred s = judge b { s with cap := { s.cap with deferred := q } } := by rw [judgeDeferred, hq]
  rw [← htake]
  exact event_taken ha hcan

/-- Settles O46: the two judgements begin in states that differ in the two lists only, and `judge_withLists` carries the
difference through. -/
theorem heldBurstIsJudgedInTheRouteState : Obligations.HeldBurstIsJudgedInTheRouteState := by
  refine fun b q s ha hq hw => ⟨fun hr => ?_, fun alone hl halone => ?_⟩
  · have hl : s.route.state ≠ .loading := by simp [hr]
    rw [exec_deferredJudge ha hq hw hl, judge_closing (s := { s with cap := { s.cap with deferred := q } }) hr]
  · have hawake : Awake alone := by rw [halone]; exact ha
    have hhead : alone.cap.judgeQ = b :: [] := by rw [halone]
    have hcan : canJudge alone = true :=
      canJudge_opened hhead (by rw [halone]; exact hw) (by rw [halone])
    refine ⟨_, exec_judgeBurst hawake hhead hcan, ?_⟩
    have hstart : { s with cap := { s.cap with deferred := q } } =
        withLists s.cap.judgeQ q { alone with cap := { alone.cap with judgeQ := [] } } := by rw [halone]; rfl
    have hroute : { alone with cap := { alone.cap with judgeQ := [] } }.route.state ≠ .loading := by rw [halone]; exact hl
    rw [exec_deferredJudge ha hq hw hl, hstart, judge_withLists _ _ b hroute]
    rfl

end Sys2Proof.Machine
end


section
/-! Accepted bursts: from the acceptance to the classification (R72 to R75), and the rules for the fix, the signal and the
learned path (R58, R72, R73). -/
namespace Sys2Proof.Machine

/-! ### What an addition of causes leaves of the entry and of the route -/

theorem reLock_route (m : Meter) (s : State) : (reLock m s).route = s.route := by
  unfold reLock
  split
  · rfl
  · split
    · rfl
    · dsimp only
      split_ifs <;> simp

theorem addCauses_zero {i : Nat} {m : Meter} {s : State} (hm : s.dir[i]? = some m) : addCauses i 0 s = s :=
  addCauses_old hm rfl BitVec.zero_and

theorem addCauses_keeps {i : Nat} {m : Meter} {s : State} (set : Byte) (hm : s.dir[i]? = some m) :
    (addCauses i set s).route = s.route ∧
      ∃ causes note, (addCauses i set s).dir[i]? = some { m with causes := causes, pendingNote := note } := by
  have hadded (new : Byte) :
      (addedCauses i new s).dir[i]? = some { m with causes := m.causes ||| new, pendingNote := m.pendingNote } :=
    getElem?_modify_some hm
  by_cases h0 : set &&& ~~~m.causes = 0
  · rw [addCauses_old hm rfl h0]
    exact ⟨rfl, m.causes, m.pendingNote, hm⟩
  · by_cases hmerge : (m.first = none ∧ m.causes ≠ 0) ∨ (m.first ≠ none ∧ m.pendingNote = true)
    · rw [addCauses_merge hm rfl h0 hmerge]
      exact ⟨rfl, _, m.pendingNote, hadded _⟩
    · by_cases hf : m.first = none
      · have hc : m.causes = 0 := not_not.mp fun hc => hmerge (.inl ⟨hf, hc⟩)
        rw [addCauses_create hm rfl h0 hf hc]
        exact ⟨rfl, _, m.pendingNote, hadded _⟩
      · have hp : m.pendingNote = false := Bool.eq_false_of_not_eq_true fun hp => hmerge (.inr ⟨hf, hp⟩)
        obtain ⟨f, hf⟩ := Option.ne_none_iff_exists'.mp hf
        have hlate : (lateState i m (set &&& ~~~m.causes) s).dir[i]? =
            some { m with causes := m.causes ||| set &&& ~~~m.causes, pendingNote := true } := getElem?_modify_some hm
        rw [addCauses_late hm rfl h0 hf hp, reLock_route, (reLock_rest _ _).1]
        exact ⟨rfl, _, true, hlate⟩

/-! ### The accepted burst (R72) -/

section
variable {b : Burst} {q : List Burst} {i : Nat} {m : Meter} {s : State}

theorem accepted_entry (hm : s.dir[i]? = some m) : (acceptedState b q i s).dir[i]? = some (heardMeter b m) :=
  getElem?_modify_some hm

theorem caused_route (hm : s.dir[i]? = some m) : (causedState b q i m s).route = s.route :=
  (addCauses_keeps _ (accepted_entry (b := b) (q := q) hm)).1

/-- What the judgement finds in the entry: the heard meter, with its causes. -/
theorem caused_entry (hm : s.dir[i]? = some m) :
    ∃ causes note, (causedState b q i m s).dir[i]? = some { heardMeter b m with causes := causes, pendingNote := note } :=
  (addCauses_keeps _ (accepted_entry (b := b) (q := q) hm)).2

theorem caused_unchanged (hm : s.dir[i]? = some m) (h : burstCauses m.img b.typeCode b.meterFlags b.counter = 0) :
    causedState b q i m s = acceptedState b q i s := by
  rw [causedState, h]
  exact addCauses_zero (accepted_entry hm)

theorem earlyFlags_eq (b : Burst) (m : Meter) :
    burstFlags b.overrun ||| (if b.typeCode = m.img.typeCode then 0 else clashFlag) |||
        tamperIf (burstCauses m.img b.typeCode b.meterFlags b.counter) = earlyFlags b m := by
  rw [burstFlags_eq]
  rfl

/-- The judgement of an accepted burst, in the state that holds its causes. -/
theorem exec_judged (h : Judged b q i m s) :
    exec .judgeBurst s =
      .next (finish s
        (if b.kind = 2#8 then
          if isListening s i then matchResponse b i m (earlyFlags b m) (causedState b q i m s)
          else
            judgeOrdinary b i m (earlyFlags b m ||| unaskedFlag ||| if isLate s i m then lateFlag else 0)
              (causedState b q i m s)
        else judgeOrdinary b i m (earlyFlags b m) (causedState b q i m s))) := by
  obtain ⟨ha, hq, hw, hd, hr, hcrc, hframe, hrssi, hfind, hm⟩ := h
  rw [exec_judgeBurst ha hq (canJudge_opened hq hw hd),
    judge_opened (s := { s with cap := { s.cap with judgeQ := q } }) hr,
    judgeOpen_checked (s := { s with cap := { s.cap with judgeQ := q } }) hcrc hframe hrssi,
    judgeMeter_known (s := judgedState { s with cap := { s.cap with judgeQ := q } }) hfind hm, acceptBurst, earlyFlags_eq]
  rfl

theorem isListening_iff (s : State) (i : Nat) :
    isListening s i = true ↔ ∃ e x, pollOf s i = some e ∧ e.sub = .listening x := by
  unfold isListening
  cases pollOf s i with
  | none => simp
  | some e =>
    obtain ⟨index, attempt, path, sub⟩ := e
    cases sub <;> simp

theorem isLate_iff (s : State) (i : Nat) (m : Meter) : isLate s i m = true ↔ Late s i m := by
  unfold isLate Late
  rw [Bool.or_eq_true, decide_eq_true_eq, or_comm]
  refine or_congr_right ?_
  cases pollOf s i with
  | none => simp
  | some e =>
    obtain ⟨index, attempt, path, sub⟩ := e
    cases sub <;> simp

theorem isDuplicate_iff (b : Burst) (m : Meter) : isDuplicate m b.counter = true ↔ Duplicate b m := by
  simp [isDuplicate, Duplicate]

/-- R74: a burst that is no matched response is judged with the flags of `OrdinaryFlags`. -/
theorem exec_ordinary {fl : Word} (h : Judged b q i m s) (hfl : OrdinaryFlags b i m s fl) :
    exec .judgeBurst s = .next (finish s (judgeOrdinary b i m fl (causedState b q i m s))) := by
  rw [exec_judged h]
  rcases hfl with ⟨hk, rfl⟩ | ⟨hk, hno, hlate⟩
  · have hne : b.kind ≠ 2#8 := by rw [hk]; decide
    rw [if_neg hne]
  · have hlisten : ¬isListening s i = true := fun hl => by
      obtain ⟨e, x, he, hx⟩ := (isListening_iff s i).mp hl
      exact hno e x he hx
    rw [if_pos hk, if_neg hlisten]
    rcases hlate with ⟨hl, rfl⟩ | ⟨hl, rfl⟩
    · rw [if_pos ((isLate_iff s i m).mpr hl), BitVec.or_assoc]
      rfl
    · rw [if_neg fun h => hl ((isLate_iff s i m).mp h)]
      exact congrArg (fun w => Host.Outcome.next (finish s (judgeOrdinary b i m w (causedState b q i m s)))) BitVec.or_zero

/-- R74: a response in its listen window is a matched response. -/
theorem exec_matched {e : PollEntry} {expiry : Word} (h : Judged b q i m s) (hk : b.kind = 2#8)
    (he : pollOf s i = some e) (hs : e.sub = .listening expiry) :
    exec .judgeBurst s = .next (finish s (matchResponse b i m (earlyFlags b m) (causedState b q i m s))) := by
  rw [exec_judged h, if_pos hk, if_pos ((isListening_iff s i).mpr ⟨e, expiry, he, hs⟩)]

/-! ### The classification (R75, R76, R80) -/

theorem judgeOrdinary_duplicate {fl : Word} {t : State} (h : Duplicate b m) :
    judgeOrdinary b i m fl t = finalVerdict b 0x13#8 fl (BitVec.ofNat 16 i) t := by
  rw [judgeOrdinary, if_pos ((isDuplicate_iff b m).mpr h)]
  rfl

theorem judgeOrdinary_read {fl : Word} {c : Confirmed} {t : State} (h : ¬Duplicate b m) (hs : m.state = .read)
    (hc : m.confirmed = some c) : judgeOrdinary b i m fl t = judgeRepeat b i c fl t := by
  rw [judgeOrdinary, if_neg (mt (isDuplicate_iff b m).mp h), if_pos hs, hc]

theorem judgeOrdinary_vote {fl : Word} {t : State} (h : ¬Duplicate b m) (hs : m.state ≠ .read) :
    judgeOrdinary b i m fl t = castVote b i m fl t := by
  rw [judgeOrdinary, if_neg (mt (isDuplicate_iff b m).mp h), if_neg hs]

end

/-! ### Fix, signal and learned path (R58, R72, R73) -/

theorem freshFix_some (f : PosFix) (stamp : Word) (limit : Half) :
    freshFix (some f) stamp limit =
      if f.quality ≠ 0 ∧ (stamp - f.time).toNat < 2 ^ 31 ∧ (stamp - f.time).toNat ≤ limit.toNat then
        some ⟨f.lat, f.lon, stamp - f.time⟩
      else none := by
  rw [freshFix]
  simp only [reached_iff]

theorem betterRssi_some (o r : Byte) : betterRssi (some o) r = some (if o.toInt < r.toInt then r else o) :=
  (apply_ite some (o.toInt < r.toInt) r o).symm

section
variable {p : RelayPath} {r : Byte} {l : Learned}

theorem learnPath_direct (old : Option Learned) (h : p.hops = 0) : learnPath old p r = some ⟨p, r⟩ := if_pos h

theorem learnPath_none : learnPath none p r = some ⟨p, r⟩ := ite_self _

theorem learnPath_better (h : p.hops ≠ 0)
    (hb : p.hops.toNat < l.path.hops.toNat ∨ (p.hops = l.path.hops ∧ l.rssi.toInt < r.toInt)) :
    learnPath (some l) p r = some ⟨p, r⟩ :=
  (if_neg h).trans (if_pos (hb.imp_right fun ⟨he, hr⟩ => ⟨he.symm, hr⟩))

theorem learnPath_worse (h : p.hops ≠ 0)
    (hb : ¬(p.hops.toNat < l.path.hops.toNat ∨ (p.hops = l.path.hops ∧ l.rssi.toInt < r.toInt))) :
    learnPath (some l) p r = some l :=
  (if_neg h).trans (if_neg fun hw => hb (hw.imp_right fun ⟨he, hr⟩ => ⟨he.symm, hr⟩))

end

end Sys2Proof.Machine
end


section
/-! Votes, confirmations and repeats (R74, R76 to R80). -/
namespace Sys2Proof.Machine

/-! ### The winner of a full window (R77) -/

/-- The leader of the vote after one more candidate: the later one leads among equals. -/
def leaderAfter (window : List Candidate) (best : Option Candidate) (c : Candidate) : Option Candidate :=
  if ∀ o ∈ best, votesIn window o.reading ≤ votesIn window c.reading then some c else best

theorem windowWinner_eq (window : List Candidate) : windowWinner window = window.foldl (leaderAfter window) none := by
  refine List.foldl_ext _ _ _ fun best c _ => ?_
  cases best with
  | none => simp [leaderAfter]
  | some o => exact if_congr (by simp [votesFor, votesIn]) rfl rfl

theorem leaders_mem {window : List Candidate} {o : Candidate} (l : List Candidate)
    (h : l.foldl (leaderAfter window) none = some o) : o ∈ l := by
  induction l using List.reverseRecOn with
  | nil => simp at h
  | append_singleton l c ih =>
    rw [List.foldl_append, List.foldl_cons, List.foldl_nil, leaderAfter] at h
    split at h
    · simp [Option.some.inj h]
    · exact List.mem_append_left _ (ih h)

theorem leader_stays {window : List Candidate} {y : Candidate} {l : List Candidate}
    (h : ∀ z ∈ l, votesIn window z.reading < votesIn window y.reading) : l.foldl (leaderAfter window) (some y) = some y := by
  induction l with
  | nil => rfl
  | cons z l ih =>
    have hz : ¬∀ o ∈ some y, votesIn window o.reading ≤ votesIn window z.reading := fun hall =>
      Nat.not_le.mpr (h z List.mem_cons_self) (hall y rfl)
    rw [List.foldl_cons, leaderAfter, if_neg hz]
    exact ih fun x hx => h x (List.mem_cons_of_mem _ hx)

theorem windowWinner_of_most {window pre post : List Candidate} {y : Candidate} (h : window = pre ++ y :: post)
    (hmost : ∀ z ∈ window, votesIn window z.reading ≤ votesIn window y.reading)
    (hlast : ∀ z ∈ post, votesIn window z.reading < votesIn window y.reading) : windowWinner window = some y := by
  have hleads : ∀ o ∈ pre.foldl (leaderAfter window) none, votesIn window o.reading ≤ votesIn window y.reading :=
    fun o ho => hmost o (by rw [h]; exact List.mem_append_left _ (leaders_mem pre ho))
  calc windowWinner window = (pre ++ y :: post).foldl (leaderAfter window) none := by rw [windowWinner_eq, ← h]
    _ = post.foldl (leaderAfter window) (leaderAfter window (pre.foldl (leaderAfter window) none) y) := by
      rw [List.foldl_append, List.foldl_cons]
    _ = some y := by rw [leaderAfter, if_pos hleads, leader_stays hlast]

/-! ### A confirmation (R78, R104) -/

/-- R78: the entry with its reading fixed. -/
def confirmedMeter (c : Confirmed) (matched : Bool) (x : Meter) : Meter :=
  { x with confirmed := some c, votes := if matched then x.votes + 1 else x.votes, state := .read }

/-- R78, R104: the reading of the entry at index `i` is fixed and its poll has ended; causes and request are still to come. -/
def confirmedState (i : Nat) (c : Confirmed) (matched : Bool) (s : State) : State := endPoll i matched (fixReading i c matched s)

theorem confirm_eq (i : Nat) (c : Confirmed) (matched : Bool) (causes : Byte) (s : State) :
    confirm i c matched causes s = readingAsked i (addCauses i causes (confirmedState i c matched s)) := rfl

theorem confirmedState_eq {i : Nat} {x : Meter} {s : State} (c : Confirmed) (matched : Bool) (hx : s.dir[i]? = some x) :
    confirmedState i c matched s =
      { s with
        dir := s.dir.modify i (confirmedMeter c matched)
        route := { s.route with segs := movedSegs x.img.segment x.state .read s.route.segs }
        ev := movedEvents x.img.segment x.state .read s.route.segs s.ev
        poll :=
          { s.poll with
            list := s.poll.list.filter fun e => decide (e.index ≠ i)
            answered := if matched then satInc s.poll.answered else s.poll.answered } } := by
  have hfixed : (modMeter i (fun m => { m with confirmed := some c, votes := if matched then m.votes + 1 else m.votes }) s).dir[i]? =
      some { x with confirmed := some c, votes := if matched then x.votes + 1 else x.votes } := getElem?_modify_some hx
  rw [confirmedState, fixReading, setMeterState_eq .read hfixed, endPoll, removePoll]
  simp only [modMeter, List.modify_modify_eq]
  rfl

/-- A change of one entry, the segments, the polls and the events stays within the frame of a vote. -/
theorem voteFrame_of_changes (i : Nat) (f : Meter → Meter) (segs : List Segment) (e : Events) (p : Poll) (s : State) :
    VoteFrame i s { s with dir := s.dir.modify i f, route := { s.route with segs := segs }, ev := e, poll := p } :=
  ⟨rfl, rfl, rfl, rfl, rfl, rfl, rfl, rfl, rfl, rfl, rfl, rfl, rfl, fun _ hj => getElem?_modify_of_ne f s.dir hj⟩

/-- What a confirmation leaves, after the change `f` of the entry: R78's three steps and the end of the poll. -/
theorem confirmation_changes {i : Nat} {x : Meter} {s : State} (f : Meter → Meter) (c : Confirmed) (matched : Bool)
    (hx : s.dir[i]? = some x) :
    ∃ v, confirmedState i c matched (modMeter i f s) = v ∧ VoteFrame i s v ∧
      v.poll =
        { s.poll with
          list := s.poll.list.filter fun e => decide (e.index ≠ i)
          answered := if matched then satInc s.poll.answered else s.poll.answered } ∧
      v.dir[i]? = some (confirmedMeter c matched (f x)) ∧
      v.route = { s.route with segs := movedSegs (f x).img.segment (f x).state .read s.route.segs } ∧
      v.ev = movedEvents (f x).img.segment (f x).state .read s.route.segs s.ev := by
  have hfx : (modMeter i f s).dir[i]? = some (f x) := getElem?_modify_some hx
  have hdir : (s.dir.modify i f).modify i (confirmedMeter c matched) = s.dir.modify i (confirmedMeter c matched ∘ f) :=
    List.modify_modify_eq _ _ _ _
  refine ⟨_, confirmedState_eq c matched hfx, ?_, rfl, getElem?_modify_some hfx, rfl, rfl⟩
  simp only [modMeter, hdir]
  exact voteFrame_of_changes i _ _ _ _ s

/-! ### A vote (R76, R77, R79) -/

/-- R76: the entry `x` after the vote that leaves `window`. -/
def withVote (b : Burst) (window : List Candidate) (x : Meter) : Meter :=
  { x with window := window, votes := x.votes + 1, lastCounter := some b.counter }

theorem tamperIf_eq (found : Byte) : tamperIf found = if found = 0 then 0 else 0x200#32 := rfl

section
variable {b : Burst} {i : Nat} {m : Meter} {fl : Word} {window : List Candidate} {t : State}

theorem castVote_waits (hw : window = m.window ++ [candidateOf b t.route.params.staleLimit])
    (hfew : votesIn window b.reading < t.route.params.votesNeeded.toNat) (hlen : m.window.length < 3) :
    castVote b i m fl t =
      finalVerdict b 0x10#8 fl (BitVec.ofNat 16 i) (setMeterState i (heardState m.state) (modMeter i (withVote b window) t)) := by
  have hroom : ¬4 ≤ window.length := by
    rw [hw, List.length_append]
    exact Nat.not_le.mpr (Nat.succ_lt_succ hlen)
  subst hw
  exact (if_neg (Nat.not_le.mpr hfew)).trans (if_neg hroom)

theorem castVote_enough {c : Candidate} {found : Byte} (hc : c = candidateOf b t.route.params.staleLimit)
    (hw : window = m.window ++ [c]) (hmany : t.route.params.votesNeeded.toNat ≤ votesIn window b.reading)
    (hfound : found = confirmCauses m.img b.reading t.route.active) :
    castVote b i m fl t =
      finalVerdict b 0x11#8 (fl ||| if found = 0 then 0 else 0x200#32) (BitVec.ofNat 16 i)
        (readingAsked i
          (addCauses i found
            (confirmedState i ⟨c.reading, c.stamp, c.fix⟩ false (modMeter i (withVote b window) t)))) := by
  subst hw hc hfound
  rw [← tamperIf_eq, ← confirm_eq]
  exact if_pos hmany

theorem castVote_full {y : Candidate} {found : Byte} (hw : window = m.window ++ [candidateOf b t.route.params.staleLimit])
    (hfew : votesIn window b.reading < t.route.params.votesNeeded.toNat) (hlen : 3 ≤ m.window.length)
    (hy : windowWinner window = some y) (hfound : found = confirmCauses m.img y.reading t.route.active ||| 0x40#8) :
    castVote b i m fl t =
      finalVerdict b 0x11#8 (fl ||| if found = 0 then 0 else 0x200#32) (BitVec.ofNat 16 i)
        (readingAsked i
          (addCauses i found
            (confirmedState i ⟨y.reading, y.stamp, y.fix⟩ false (modMeter i (withVote b window) t)))) := by
  have hfull : 4 ≤ window.length := by
    rw [hw, List.length_append]
    exact Nat.succ_le_succ hlen
  have hwinner (d : Candidate) : (windowWinner window).getD d = y := by rw [hy]; rfl
  rw [← tamperIf_eq, ← confirm_eq, hfound, ← hwinner (candidateOf b t.route.params.staleLimit)]
  subst hw
  exact (if_neg (Nat.not_le.mpr hfew)).trans (if_pos hfull)

/-- What a vote leaves that is not enough: the candidate waits, and the meter is HEARD unless it is POLLING. -/
theorem waiting_changes {x : Meter} (hx : t.dir[i]? = some x) (hs : x.state ≠ .read) :
    ∃ v, setMeterState i (heardState x.state) (modMeter i (withVote b window) t) = v ∧ VoteFrame i t v ∧ v.poll = t.poll ∧
      v.ev = t.ev ∧
      v.dir[i]? = some { withVote b window x with state := if x.state = .polling then .polling else .heard } ∧
      v.route =
        { t.route with
          segs :=
            movedSegs x.img.segment x.state (if x.state = .polling then .polling else .heard) t.route.segs } := by
  have hheard : heardState x.state = if x.state = .polling then .polling else .heard := by
    cases h : x.state with
    | read => exact absurd h hs
    | expected => rfl
    | heard => rfl
    | polling => rfl
    | unreachable => rfl
  have hunresolved : ¬Resolved (if x.state = .polling then .polling else .heard) := by split <;> decide
  have hvx : (modMeter i (withVote b window) t).dir[i]? = some (withVote b window x) := getElem?_modify_some hx
  rw [hheard]
  refine ⟨_, setMeterState_eq _ hvx, ?_, rfl, movedEvents_unresolved _ _ _ _ hunresolved, getElem?_modify_some hvx, rfl⟩
  simp only [modMeter, List.modify_modify_eq]
  exact voteFrame_of_changes i _ _ _ t.poll t

end

/-! ### A repeat (R80) -/

theorem isRepeat_iff (c r : Reading) (drift : Half) :
    isRepeat c r drift = true ↔
      r.unit = c.unit ∧ c.value.toNat ≤ r.value.toNat ∧ r.value.toNat - c.value.toNat ≤ drift.toNat := by
  rw [isRepeat, Bool.and_eq_true, Bool.and_eq_true, decide_eq_true_eq, decide_eq_true_eq, decide_eq_true_eq, and_assoc,
    BitVec.le_def]
  refine and_congr_right fun _ => and_congr_right fun hle => ?_
  rw [BitVec.toNat_sub_of_le hle]

section
variable {b : Burst} {i : Nat} {c : Confirmed} {fl : Word} {t : State}

theorem judgeRepeat_repeats (h : isRepeat c.reading b.reading t.route.active.drift = true) :
    judgeRepeat b i c fl t =
      finalVerdict b 0x12#8 fl (BitVec.ofNat 16 i)
        { t with
          dir :=
            t.dir.modify i fun x =>
              { x with
                lastCounter := some b.counter
                repeats := if x.repeats = 0xFF#8 then 0xFF#8 else x.repeats + 1 } } := by
  have hsat (r : Byte) : satIncByte r = if r = 0xFF#8 then 0xFF#8 else r + 1 := by
    unfold satIncByte
    split
    · assumption
    · rfl
  rw [judgeRepeat, if_pos h]
  simp only [modMeter, List.modify_modify_eq, hsat]
  rfl

theorem judgeRepeat_drifts (h : ¬isRepeat c.reading b.reading t.route.active.drift = true) :
    judgeRepeat b i c fl t =
      finalVerdict b 0x10#8 (fl ||| 0x200#32) (BitVec.ofNat 16 i)
        (addCauses i 0x80#8 { t with dir := t.dir.modify i fun x => { x with lastCounter := some b.counter } }) :=
  if_neg h

end

/-! ### A matched response (R74) -/

theorem matchResponse_eq {b : Burst} {i : Nat} {m : Meter} {fl : Word} {found : Byte} {t : State}
    (hfound : found = confirmCauses m.img b.reading t.route.active) :
    matchResponse b i m fl t =
      finalVerdict b 0x14#8 (fl ||| if found = 0 then 0 else 0x200#32) (BitVec.ofNat 16 i)
        (readingAsked i
          (addCauses i found
            (confirmedState i ⟨b.reading, b.stamp, freshFix b.fix b.stamp t.route.params.staleLimit⟩ true
              (modMeter i (fun x => { x with lastCounter := some b.counter }) t)))) := by
  subst hfound
  rfl

end Sys2Proof.Machine
end


section
/-! The classes of an accepted burst: first votes, votes, matched responses, duplicates and repeats (R72 to R81). -/
namespace Sys2Proof.Machine

section
variable {b : Burst} {q : List Burst} {i : Nat} {m x : Meter} {fl : Word} {s : State}

/-! ### What the judged entry keeps -/

theorem judged_entry (h : Judged b q i m s) : s.dir[i]? = some m := by
  obtain ⟨-, -, -, -, -, -, -, -, -, hm⟩ := h
  exact hm

theorem caused_keeps (hm : s.dir[i]? = some m) (hx : (causedState b q i m s).dir[i]? = some x) :
    x.img = m.img ∧ x.state = m.state ∧ x.window = m.window := by
  obtain ⟨causes, note, h⟩ := caused_entry (b := b) (q := q) hm
  obtain rfl := Option.some.inj (h.symm.trans hx)
  exact ⟨rfl, rfl, rfl⟩

/-! ### Votes (R76 to R79) -/

section
variable {c : Candidate} {window : List Candidate}

theorem vote_waits (h : Judged b q i m s) (hfl : OrdinaryFlags b i m s fl) (hdup : ¬Duplicate b m) (hst : m.state ≠ .read)
    (hx : (causedState b q i m s).dir[i]? = some x) (hc : c = candidateOf b s.route.params.staleLimit)
    (hw : window = m.window ++ [c]) (hfew : votesIn window b.reading < s.route.params.votesNeeded.toNat)
    (hlen : m.window.length < 3) :
    ∃ v, exec .judgeBurst s = .next (finish s (finalVerdict b 0x10#8 fl (BitVec.ofNat 16 i) v)) ∧
      VoteFrame i (causedState b q i m s) v ∧ v.poll = (causedState b q i m s).poll ∧ v.ev = (causedState b q i m s).ev ∧
      v.dir[i]? = some { votedMeter b c x with state := if m.state = .polling then .polling else .heard } ∧
      v.route =
        { (causedState b q i m s).route with
          segs :=
            movedSegs m.img.segment m.state (if m.state = .polling then .polling else .heard)
              (causedState b q i m s).route.segs } := by
  have hm := judged_entry h
  obtain ⟨himg, hstate, hwindow⟩ := caused_keeps hm hx
  obtain ⟨v, hv, hframe, hpoll, hev, hdir, hroute⟩ := waiting_changes (b := b) (window := window) hx (hstate ▸ hst)
  rw [hstate] at hv hdir hroute
  rw [himg] at hroute
  rw [hw, ← hwindow] at hdir
  rw [← caused_route (b := b) (q := q) hm] at hc hfew
  rw [hc] at hw
  rw [exec_ordinary h hfl, judgeOrdinary_vote hdup hst, castVote_waits hw hfew hlen, hv]
  exact ⟨v, rfl, hframe, hpoll, hev, hdir, hroute⟩

theorem vote_confirms {y : Candidate} {found : Byte} (h : Judged b q i m s) (hfl : OrdinaryFlags b i m s fl)
    (hdup : ¬Duplicate b m) (hst : m.state ≠ .read) (hx : (causedState b q i m s).dir[i]? = some x)
    (hc : c = candidateOf b s.route.params.staleLimit) (hw : window = m.window ++ [c])
    (hy : (s.route.params.votesNeeded.toNat ≤ votesIn window b.reading ∧ y = c ∧
          found = confirmCauses m.img b.reading s.route.active) ∨
        (votesIn window b.reading < s.route.params.votesNeeded.toNat ∧ 3 ≤ m.window.length ∧
          found = confirmCauses m.img y.reading s.route.active ||| 0x40#8 ∧
          ∃ pre post, window = pre ++ y :: post ∧
            (∀ z ∈ window, votesIn window z.reading ≤ votesIn window y.reading) ∧
            ∀ z ∈ post, votesIn window z.reading < votesIn window y.reading)) :
    ∃ v, exec .judgeBurst s =
          .next (finish s
            (finalVerdict b 0x11#8 (fl ||| if found = 0 then 0 else 0x200#32) (BitVec.ofNat 16 i)
              (readingAsked i (addCauses i found v)))) ∧
      VoteFrame i (causedState b q i m s) v ∧
      v.poll =
        { (causedState b q i m s).poll with
          list := (causedState b q i m s).poll.list.filter (fun e => decide (e.index ≠ i)) } ∧
      v.dir[i]? =
        some { votedMeter b c x with state := .read, confirmed := some ⟨y.reading, y.stamp, y.fix⟩ } ∧
      v.route =
        { (causedState b q i m s).route with
          segs := movedSegs m.img.segment m.state .read (causedState b q i m s).route.segs } ∧
      v.ev =
        movedEvents m.img.segment m.state .read (causedState b q i m s).route.segs (causedState b q i m s).ev := by
  have hm := judged_entry h
  obtain ⟨himg, hstate, hwindow⟩ := caused_keeps hm hx
  obtain ⟨v, hv, hframe, hpoll, hdir, hroute, hev⟩ :=
    confirmation_changes (withVote b window) ⟨y.reading, y.stamp, y.fix⟩ false hx
  have hentry : confirmedMeter ⟨y.reading, y.stamp, y.fix⟩ false (withVote b window x) =
      { votedMeter b c x with state := .read, confirmed := some ⟨y.reading, y.stamp, y.fix⟩ } := by
    rw [votedMeter, hwindow, ← hw]
    rfl
  have hcast : castVote b i m fl (causedState b q i m s) =
      finalVerdict b 0x11#8 (fl ||| if found = 0 then 0 else 0x200#32) (BitVec.ofNat 16 i)
        (readingAsked i (addCauses i found v)) := by
    rw [← caused_route (b := b) (q := q) hm] at hc hy
    rw [← hv]
    rcases hy with ⟨hmany, rfl, hfound⟩ | ⟨hfew, hlen, hfound, pre, post, hsplit, hmost, hlast⟩
    · exact castVote_enough hc hw hmany hfound
    · exact castVote_full (hc ▸ hw) hfew hlen (windowWinner_of_most hsplit hmost hlast) hfound
  rw [exec_ordinary h hfl, judgeOrdinary_vote hdup hst, hcast, ← himg, ← hstate]
  exact ⟨v, rfl, hframe, hpoll, hdir.trans (congrArg some hentry), hroute, hev⟩

end

/-! ### The first vote (R72, R76, R79) -/

theorem earlyFlags_of_no_cause (h : burstCauses m.img b.typeCode b.meterFlags b.counter = 0) :
    earlyFlags b m = flag b.overrun 8 := by
  have hclash : b.typeCode = m.img.typeCode := by
    by_contra hne
    rw [burstCauses_eq, if_neg hne] at h
    have hor := (BitVec.or_eq_zero_iff.mp (BitVec.or_eq_zero_iff.mp h).1).2
    exact absurd hor (by decide)
  rw [earlyFlags, if_pos hclash, if_pos h]
  exact BitVec.or_zero.trans BitVec.or_zero

theorem not_duplicate_of_unheard (hs : m.state = .expected) (hw : m.window = []) : ¬Duplicate b m := by
  simp [Duplicate, hs, hw]

theorem votesIn_own (c : Candidate) : votesIn [c] c.reading = 1 := by simp [votesIn]

theorem movedSegs_heard (g : Nat) (segs : List Segment) : movedSegs g .expected .heard segs = segs :=
  movedSegs_unresolved g segs (by decide) (by decide)

/-- The entry after the first vote of its meter, its state still to be set. -/
def firstVoteMeter (b : Burst) (c : Candidate) (m : Meter) : Meter :=
  { heardMeter b m with window := [c], votes := m.votes + 1, lastCounter := some b.counter }

section
variable {c : Candidate}

theorem votedMeter_first (hw : m.window = []) : votedMeter b c (heardMeter b m) = firstVoteMeter b c m := by
  rw [votedMeter, show (heardMeter b m).window = [] from hw]
  rfl

theorem firstVote_waits (h : Judged b q i m s) (hk : b.kind = 1#8) (hst : m.state = .expected) (hw : m.window = [])
    (h0 : burstCauses m.img b.typeCode b.meterFlags b.counter = 0) (hc : c = candidateOf b s.route.params.staleLimit)
    (hfew : 1 < s.route.params.votesNeeded.toNat) :
    ∃ v, exec .judgeBurst s = .next (finish s (finalVerdict b 0x10#8 (flag b.overrun 8) (BitVec.ofNat 16 i) v)) ∧
      VoteFrame i (acceptedState b q i s) v ∧ v.dir[i]? = some { firstVoteMeter b c m with state := .heard } ∧
      v.poll = s.poll ∧ v.ev = s.ev ∧ v.route = s.route := by
  have hm := judged_entry h
  have hflags : OrdinaryFlags b i m s (flag b.overrun 8) := .inl ⟨hk, (earlyFlags_of_no_cause h0).symm⟩
  have hbase := caused_unchanged (b := b) (q := q) hm h0
  have hx : (causedState b q i m s).dir[i]? = some (heardMeter b m) := by rw [hbase]; exact accepted_entry hm
  have hone : votesIn [c] b.reading < s.route.params.votesNeeded.toNat := by
    rw [hc]
    exact (votesIn_own _).symm ▸ hfew
  obtain ⟨v, hexec, hframe, hpoll, hev, hdir, hroute⟩ :=
    vote_waits h hflags (not_duplicate_of_unheard hst hw) (by simp [hst]) hx hc (by simp [hw]) hone (by simp [hw])
  rw [hbase] at hframe hpoll hev hroute
  rw [votedMeter_first hw] at hdir
  rw [hst] at hdir hroute
  refine ⟨v, hexec, hframe, hdir, hpoll, hev, hroute.trans ?_⟩
  rw [if_neg (by decide), movedSegs_heard]
  rfl

theorem firstVote_confirms (h : Judged b q i m s) (hk : b.kind = 1#8) (hst : m.state = .expected) (hw : m.window = [])
    (h0 : burstCauses m.img b.typeCode b.meterFlags b.counter = 0) (hc : c = candidateOf b s.route.params.staleLimit)
    (hneeded : s.route.params.votesNeeded = 1) (hnone : confirmCauses m.img b.reading s.route.active = 0) :
    ∃ v, exec .judgeBurst s =
          .next (finish s (finalVerdict b 0x11#8 (flag b.overrun 8) (BitVec.ofNat 16 i) (readingAsked i v))) ∧
      VoteFrame i (acceptedState b q i s) v ∧
      v.dir[i]? = some { firstVoteMeter b c m with state := .read, confirmed := some ⟨b.reading, b.stamp, c.fix⟩ } ∧
      v.poll = { s.poll with list := s.poll.list.filter (fun e => decide (e.index ≠ i)) } ∧
      v.route = { s.route with segs := movedSegs m.img.segment .expected .read s.route.segs } ∧
      v.ev = movedEvents m.img.segment .expected .read s.route.segs s.ev := by
  have hm := judged_entry h
  have hflags : OrdinaryFlags b i m s (flag b.overrun 8) := .inl ⟨hk, (earlyFlags_of_no_cause h0).symm⟩
  have hbase := caused_unchanged (b := b) (q := q) hm h0
  have hx : (causedState b q i m s).dir[i]? = some (heardMeter b m) := by rw [hbase]; exact accepted_entry hm
  have hone : s.route.params.votesNeeded.toNat ≤ votesIn [c] b.reading := by
    rw [hneeded, hc]
    exact (votesIn_own _).ge
  obtain ⟨v, hexec, hframe, hpoll, hdir, hroute, hev⟩ :=
    vote_confirms h hflags (not_duplicate_of_unheard hst hw) (by simp [hst]) hx hc (by simp [hw])
      (.inl ⟨hone, rfl, hnone.symm⟩)
  rw [hbase] at hframe hpoll hev hroute
  rw [votedMeter_first hw] at hdir
  rw [hst] at hroute hev
  have hread : c.reading = b.reading ∧ c.stamp = b.stamp := by rw [hc]; exact ⟨rfl, rfl⟩
  rw [hread.1, hread.2] at hdir
  refine ⟨v, ?_, hframe, hdir, hpoll, hroute, hev⟩
  rw [hexec, if_pos rfl, addCauses_zero hdir]
  exact congrArg (fun w => Host.Outcome.next (finish s (finalVerdict b 0x11#8 w (BitVec.ofNat 16 i) (readingAsked i v))))
    BitVec.or_zero

end

/-! ### Matched responses, duplicates and repeats (R74, R75, R80) -/

theorem response_confirms {e : PollEntry} {expiry : Word} {found : Byte} (h : Judged b q i m s) (hk : b.kind = 2#8)
    (he : pollOf s i = some e) (hs : e.sub = .listening expiry) (hx : (causedState b q i m s).dir[i]? = some x)
    (hfound : found = confirmCauses m.img b.reading s.route.active) :
    ∃ v, exec .judgeBurst s =
          .next (finish s
            (finalVerdict b 0x14#8 (earlyFlags b m ||| if found = 0 then 0 else 0x200#32) (BitVec.ofNat 16 i)
              (readingAsked i (addCauses i found v)))) ∧
      VoteFrame i (causedState b q i m s) v ∧
      v.poll =
        { (causedState b q i m s).poll with
          list := (causedState b q i m s).poll.list.filter (fun e => decide (e.index ≠ i))
          answered := satInc (causedState b q i m s).poll.answered } ∧
      v.dir[i]? =
        some
          { x with
            state := .read, votes := x.votes + 1, lastCounter := some b.counter
            confirmed := some ⟨b.reading, b.stamp, freshFix b.fix b.stamp s.route.params.staleLimit⟩ } ∧
      v.route =
        { (causedState b q i m s).route with
          segs := movedSegs m.img.segment m.state .read (causedState b q i m s).route.segs } ∧
      v.ev =
        movedEvents m.img.segment m.state .read (causedState b q i m s).route.segs (causedState b q i m s).ev := by
  have hm := judged_entry h
  obtain ⟨himg, hstate, -⟩ := caused_keeps hm hx
  obtain ⟨v, hv, hframe, hpoll, hdir, hroute, hev⟩ :=
    confirmation_changes (fun y => { y with lastCounter := some b.counter })
      ⟨b.reading, b.stamp, freshFix b.fix b.stamp s.route.params.staleLimit⟩ true hx
  have hsame := caused_route (b := b) (q := q) hm
  rw [← hsame] at hfound hv
  rw [exec_matched h hk he hs, matchResponse_eq hfound, hv, ← himg, ← hstate]
  exact ⟨v, rfl, hframe, hpoll, hdir, hroute, hev⟩

theorem duplicate_changes_nothing (h : Judged b q i m s) (hfl : OrdinaryFlags b i m s fl) (hdup : Duplicate b m) :
    exec .judgeBurst s = .next (finish s (finalVerdict b 0x13#8 fl (BitVec.ofNat 16 i) (causedState b q i m s))) := by
  rw [exec_ordinary h hfl, judgeOrdinary_duplicate hdup]

section
variable {c : Confirmed}

theorem repeat_is_counted (h : Judged b q i m s) (hfl : OrdinaryFlags b i m s fl) (hdup : ¬Duplicate b m)
    (hst : m.state = .read) (hc : m.confirmed = some c)
    (hr : b.reading.unit = c.reading.unit ∧ c.reading.value.toNat ≤ b.reading.value.toNat ∧
      b.reading.value.toNat - c.reading.value.toNat ≤ s.route.active.drift.toNat) :
    exec .judgeBurst s =
      .next (finish s
        (finalVerdict b 0x12#8 fl (BitVec.ofNat 16 i)
          { causedState b q i m s with
            dir :=
              (causedState b q i m s).dir.modify i fun x =>
                { x with
                  lastCounter := some b.counter
                  repeats := if x.repeats = 0xFF#8 then 0xFF#8 else x.repeats + 1 } })) := by
  have hrepeat := (isRepeat_iff c.reading b.reading s.route.active.drift).mpr hr
  rw [← caused_route (b := b) (q := q) (judged_entry h)] at hrepeat
  rw [exec_ordinary h hfl, judgeOrdinary_read hdup hst hc, judgeRepeat_repeats hrepeat]

theorem other_reading_drifts (h : Judged b q i m s) (hfl : OrdinaryFlags b i m s fl) (hdup : ¬Duplicate b m)
    (hst : m.state = .read) (hc : m.confirmed = some c)
    (hr : ¬(b.reading.unit = c.reading.unit ∧ c.reading.value.toNat ≤ b.reading.value.toNat ∧
      b.reading.value.toNat - c.reading.value.toNat ≤ s.route.active.drift.toNat)) :
    exec .judgeBurst s =
      .next (finish s
        (finalVerdict b 0x10#8 (fl ||| 0x200#32) (BitVec.ofNat 16 i)
          (addCauses i 0x80#8
            { causedState b q i m s with
              dir := (causedState b q i m s).dir.modify i fun x => { x with lastCounter := some b.counter } }))) := by
  have hdrift := mt (isRepeat_iff c.reading b.reading s.route.active.drift).mp hr
  rw [← caused_route (b := b) (q := q) (judged_entry h)] at hdrift
  rw [exec_ordinary h hfl, judgeOrdinary_read hdup hst hc, judgeRepeat_drifts hdrift]

end

end

/-- Settles O45: each class of an accepted burst by its own lemma above. -/
theorem firstVoteHearsOrConfirms : Obligations.FirstVoteHearsOrConfirms := by
  refine ⟨fun b q i m heard c s h hk hst hw h0 hc hheard => ?_, fun stamp limit => ⟨rfl, fun f => freshFix_some f stamp limit⟩,
    fun r o => ⟨rfl, betterRssi_some o r⟩,
    fun p r l => ⟨learnPath_none, learnPath_direct (some l), learnPath_better, learnPath_worse⟩,
    fun b q i m x fl c window s base h hfl hdup hst hbase hx hc hw => ?_,
    fun b q i m x e expiry found s base h hk he hs hbase hx hfound => ?_,
    fun b q i m fl s base h hfl hbase => ?_⟩
  · subst hheard
    exact ⟨firstVote_waits h hk hst hw h0 hc, firstVote_confirms h hk hst hw h0 hc⟩
  · subst hbase
    exact ⟨vote_waits h hfl hdup hst hx hc hw, fun y found hy => vote_confirms h hfl hdup hst hx hc hw hy⟩
  · subst hbase
    exact response_confirms h hk he hs hx hfound
  · subst hbase
    exact ⟨duplicate_changes_nothing h hfl, fun c hdup hst hc =>
      ⟨repeat_is_counted h hfl hdup hst hc, other_reading_drifts h hfl hdup hst hc⟩⟩

end Sys2Proof.Machine
end
